-- ==== Sys2Proof/Word.lean ====
section
/-! DEFINITION. The word types of the eBPF machine (`00_scope.md` R6, R8). -/

namespace Sys2Proof

/-- A register value, a data address, an instruction slot: 64 bits (R6). -/
abbrev Word := BitVec 64

/-- One byte of data memory (R6). -/
abbrev Byte := BitVec 8

end Sys2Proof
end

