-- ==== Sys2Proof/Syntax.lean ====
section
/-! DEFINITION. The instructions of eBPF v1.0: one constructor for each row of `spec/opcode_table.json`. -/

namespace Sys2Proof

/-- The eleven registers (`10_state.md` R20); `r10` is the read-only frame pointer (R22). A register field that holds 11 to 15
names no register (R23), so no instruction of this type holds one. -/
inductive Reg where
  | r0 | r1 | r2 | r3 | r4 | r5 | r6 | r7 | r8 | r9 | r10
deriving DecidableEq, Repr

/-- The size modifier of a load or store (`30_encoding.md` R71). -/
inductive Size where
  | w | h | b | dw
deriving DecidableEq, Repr

/-- The instructions. `dst` and `src` are the register fields, `imm` the 32-bit immediate, `off` the 16-bit offset
(`30_encoding.md` R61, R78); the docstring of a constructor names its rule and its opcode byte. -/
inductive Instr where
  -- 64-bit arithmetic (`40_alu64.md`)
  /-- R101, opcode 0x07. -/
  | add64K (dst : Reg) (imm : BitVec 32)
  /-- R101, opcode 0x0f. -/
  | add64X (dst src : Reg)
  /-- R102, opcode 0x17. -/
  | sub64K (dst : Reg) (imm : BitVec 32)
  /-- R102, opcode 0x1f. -/
  | sub64X (dst src : Reg)
  /-- R103, opcode 0x27. -/
  | mul64K (dst : Reg) (imm : BitVec 32)
  /-- R103, opcode 0x2f. -/
  | mul64X (dst src : Reg)
  /-- R104, opcode 0x37. -/
  | div64K (dst : Reg) (imm : BitVec 32)
  /-- R104, opcode 0x3f. -/
  | div64X (dst src : Reg)
  /-- R105, opcode 0x47. -/
  | or64K (dst : Reg) (imm : BitVec 32)
  /-- R105, opcode 0x4f. -/
  | or64X (dst src : Reg)
  /-- R106, opcode 0x57. -/
  | and64K (dst : Reg) (imm : BitVec 32)
  /-- R106, opcode 0x5f. -/
  | and64X (dst src : Reg)
  /-- R107, opcode 0x67. -/
  | lsh64K (dst : Reg) (imm : BitVec 32)
  /-- R107, opcode 0x6f. -/
  | lsh64X (dst src : Reg)
  /-- R108, opcode 0x77. -/
  | rsh64K (dst : Reg) (imm : BitVec 32)
  /-- R108, opcode 0x7f. -/
  | rsh64X (dst src : Reg)
  /-- R109, opcode 0x87. -/
  | neg64K (dst : Reg) (imm : BitVec 32)
  /-- R109, opcode 0x8f. -/
  | neg64X (dst src : Reg)
  /-- R110, opcode 0x97. -/
  | mod64K (dst : Reg) (imm : BitVec 32)
  /-- R110, opcode 0x9f. -/
  | mod64X (dst src : Reg)
  /-- R111, opcode 0xa7. -/
  | xor64K (dst : Reg) (imm : BitVec 32)
  /-- R111, opcode 0xaf. -/
  | xor64X (dst src : Reg)
  /-- R112, opcode 0xb7. -/
  | mov64K (dst : Reg) (imm : BitVec 32)
  /-- R112, opcode 0xbf. -/
  | mov64X (dst src : Reg)
  /-- R113, opcode 0xc7. -/
  | arsh64K (dst : Reg) (imm : BitVec 32)
  /-- R113, opcode 0xcf. -/
  | arsh64X (dst src : Reg)
  -- 32-bit arithmetic (`41_alu32.md`)
  /-- R121, opcode 0x04. -/
  | add32K (dst : Reg) (imm : BitVec 32)
  /-- R121, opcode 0x0c. -/
  | add32X (dst src : Reg)
  /-- R122, opcode 0x14. -/
  | sub32K (dst : Reg) (imm : BitVec 32)
  /-- R122, opcode 0x1c. -/
  | sub32X (dst src : Reg)
  /-- R123, opcode 0x24. -/
  | mul32K (dst : Reg) (imm : BitVec 32)
  /-- R123, opcode 0x2c. -/
  | mul32X (dst src : Reg)
  /-- R124, opcode 0x34. -/
  | div32K (dst : Reg) (imm : BitVec 32)
  /-- R124, opcode 0x3c. -/
  | div32X (dst src : Reg)
  /-- R125, opcode 0x44. -/
  | or32K (dst : Reg) (imm : BitVec 32)
  /-- R125, opcode 0x4c. -/
  | or32X (dst src : Reg)
  /-- R126, opcode 0x54. -/
  | and32K (dst : Reg) (imm : BitVec 32)
  /-- R126, opcode 0x5c. -/
  | and32X (dst src : Reg)
  /-- R127, opcode 0x64. -/
  | lsh32K (dst : Reg) (imm : BitVec 32)
  /-- R127, opcode 0x6c. -/
  | lsh32X (dst src : Reg)
  /-- R128, opcode 0x74. -/
  | rsh32K (dst : Reg) (imm : BitVec 32)
  /-- R128, opcode 0x7c. -/
  | rsh32X (dst src : Reg)
  /-- R129, opcode 0x84. -/
  | neg32K (dst : Reg) (imm : BitVec 32)
  /-- R129, opcode 0x8c. -/
  | neg32X (dst src : Reg)
  /-- R130, opcode 0x94. -/
  | mod32K (dst : Reg) (imm : BitVec 32)
  /-- R130, opcode 0x9c. -/
  | mod32X (dst src : Reg)
  /-- R131, opcode 0xa4. -/
  | xor32K (dst : Reg) (imm : BitVec 32)
  /-- R131, opcode 0xac. -/
  | xor32X (dst src : Reg)
  /-- R132, opcode 0xb4. -/
  | mov32K (dst : Reg) (imm : BitVec 32)
  /-- R132, opcode 0xbc. -/
  | mov32X (dst src : Reg)
  /-- R133, opcode 0xc4. -/
  | arsh32K (dst : Reg) (imm : BitVec 32)
  /-- R133, opcode 0xcc. -/
  | arsh32X (dst src : Reg)
  -- Byte swaps (`42_byteswap.md`)
  /-- R141, opcode 0xd4 `imm` 0x10. -/
  | le16 (dst : Reg)
  /-- R142, opcode 0xd4 `imm` 0x20. -/
  | le32 (dst : Reg)
  /-- R143, opcode 0xd4 `imm` 0x40. -/
  | le64 (dst : Reg)
  /-- R144, opcode 0xdc `imm` 0x10. -/
  | be16 (dst : Reg)
  /-- R145, opcode 0xdc `imm` 0x20. -/
  | be32 (dst : Reg)
  /-- R146, opcode 0xdc `imm` 0x40. -/
  | be64 (dst : Reg)
  -- Unconditional jump and 64-bit conditional jumps (`43_jump.md`)
  /-- R152, opcode 0x05. -/
  | ja (off : BitVec 16)
  /-- R153, opcode 0x15. -/
  | jeqK (dst : Reg) (imm : BitVec 32) (off : BitVec 16)
  /-- R153, opcode 0x1d. -/
  | jeqX (dst src : Reg) (off : BitVec 16)
  /-- R154, opcode 0x25. -/
  | jgtK (dst : Reg) (imm : BitVec 32) (off : BitVec 16)
  /-- R154, opcode 0x2d. -/
  | jgtX (dst src : Reg) (off : BitVec 16)
  /-- R155, opcode 0x35. -/
  | jgeK (dst : Reg) (imm : BitVec 32) (off : BitVec 16)
  /-- R155, opcode 0x3d. -/
  | jgeX (dst src : Reg) (off : BitVec 16)
  /-- R156, opcode 0x45. -/
  | jsetK (dst : Reg) (imm : BitVec 32) (off : BitVec 16)
  /-- R156, opcode 0x4d. -/
  | jsetX (dst src : Reg) (off : BitVec 16)
  /-- R157, opcode 0x55. -/
  | jneK (dst : Reg) (imm : BitVec 32) (off : BitVec 16)
  /-- R157, opcode 0x5d. -/
  | jneX (dst src : Reg) (off : BitVec 16)
  /-- R158, opcode 0x65. -/
  | jsgtK (dst : Reg) (imm : BitVec 32) (off : BitVec 16)
  /-- R158, opcode 0x6d. -/
  | jsgtX (dst src : Reg) (off : BitVec 16)
  /-- R159, opcode 0x75. -/
  | jsgeK (dst : Reg) (imm : BitVec 32) (off : BitVec 16)
  /-- R159, opcode 0x7d. -/
  | jsgeX (dst src : Reg) (off : BitVec 16)
  /-- R160, opcode 0xa5. -/
  | jltK (dst : Reg) (imm : BitVec 32) (off : BitVec 16)
  /-- R160, opcode 0xad. -/
  | jltX (dst src : Reg) (off : BitVec 16)
  /-- R161, opcode 0xb5. -/
  | jleK (dst : Reg) (imm : BitVec 32) (off : BitVec 16)
  /-- R161, opcode 0xbd. -/
  | jleX (dst src : Reg) (off : BitVec 16)
  /-- R162, opcode 0xc5. -/
  | jsltK (dst : Reg) (imm : BitVec 32) (off : BitVec 16)
  /-- R162, opcode 0xcd. -/
  | jsltX (dst src : Reg) (off : BitVec 16)
  /-- R163, opcode 0xd5. -/
  | jsleK (dst : Reg) (imm : BitVec 32) (off : BitVec 16)
  /-- R163, opcode 0xdd. -/
  | jsleX (dst src : Reg) (off : BitVec 16)
  -- 32-bit conditional jumps (`43_jump.md`)
  /-- R164, opcode 0x16. -/
  | jeq32K (dst : Reg) (imm : BitVec 32) (off : BitVec 16)
  /-- R164, opcode 0x1e. -/
  | jeq32X (dst src : Reg) (off : BitVec 16)
  /-- R165, opcode 0x26. -/
  | jgt32K (dst : Reg) (imm : BitVec 32) (off : BitVec 16)
  /-- R165, opcode 0x2e. -/
  | jgt32X (dst src : Reg) (off : BitVec 16)
  /-- R166, opcode 0x36. -/
  | jge32K (dst : Reg) (imm : BitVec 32) (off : BitVec 16)
  /-- R166, opcode 0x3e. -/
  | jge32X (dst src : Reg) (off : BitVec 16)
  /-- R167, opcode 0x46. -/
  | jset32K (dst : Reg) (imm : BitVec 32) (off : BitVec 16)
  /-- R167, opcode 0x4e. -/
  | jset32X (dst src : Reg) (off : BitVec 16)
  /-- R168, opcode 0x56. -/
  | jne32K (dst : Reg) (imm : BitVec 32) (off : BitVec 16)
  /-- R168, opcode 0x5e. -/
  | jne32X (dst src : Reg) (off : BitVec 16)
  /-- R169, opcode 0x66. -/
  | jsgt32K (dst : Reg) (imm : BitVec 32) (off : BitVec 16)
  /-- R169, opcode 0x6e. -/
  | jsgt32X (dst src : Reg) (off : BitVec 16)
  /-- R170, opcode 0x76. -/
  | jsge32K (dst : Reg) (imm : BitVec 32) (off : BitVec 16)
  /-- R170, opcode 0x7e. -/
  | jsge32X (dst src : Reg) (off : BitVec 16)
  /-- R171, opcode 0xa6. -/
  | jlt32K (dst : Reg) (imm : BitVec 32) (off : BitVec 16)
  /-- R171, opcode 0xae. -/
  | jlt32X (dst src : Reg) (off : BitVec 16)
  /-- R172, opcode 0xb6. -/
  | jle32K (dst : Reg) (imm : BitVec 32) (off : BitVec 16)
  /-- R172, opcode 0xbe. -/
  | jle32X (dst src : Reg) (off : BitVec 16)
  /-- R173, opcode 0xc6. -/
  | jslt32K (dst : Reg) (imm : BitVec 32) (off : BitVec 16)
  /-- R173, opcode 0xce. -/
  | jslt32X (dst src : Reg) (off : BitVec 16)
  /-- R174, opcode 0xd6. -/
  | jsle32K (dst : Reg) (imm : BitVec 32) (off : BitVec 16)
  /-- R174, opcode 0xde. -/
  | jsle32X (dst src : Reg) (off : BitVec 16)
  -- Call and exit (`43_jump.md`)
  /-- R175, opcode 0x85. -/
  | call (imm : BitVec 32)
  /-- R176, opcode 0x95. -/
  | exit
  -- Regular stores and loads (`44_load_store.md`)
  /-- R191, opcode 0x63. -/
  | stxw (dst src : Reg) (off : BitVec 16)
  /-- R192, opcode 0x6b. -/
  | stxh (dst src : Reg) (off : BitVec 16)
  /-- R193, opcode 0x73. -/
  | stxb (dst src : Reg) (off : BitVec 16)
  /-- R194, opcode 0x7b. -/
  | stxdw (dst src : Reg) (off : BitVec 16)
  /-- R195, opcode 0x62. -/
  | stw (dst : Reg) (off : BitVec 16) (imm : BitVec 32)
  /-- R196, opcode 0x6a. -/
  | sth (dst : Reg) (off : BitVec 16) (imm : BitVec 32)
  /-- R197, opcode 0x72. -/
  | stb (dst : Reg) (off : BitVec 16) (imm : BitVec 32)
  /-- R198, opcode 0x7a. -/
  | stdw (dst : Reg) (off : BitVec 16) (imm : BitVec 32)
  /-- R199, opcode 0x61. -/
  | ldxw (dst src : Reg) (off : BitVec 16)
  /-- R200, opcode 0x69. -/
  | ldxh (dst src : Reg) (off : BitVec 16)
  /-- R201, opcode 0x71. -/
  | ldxb (dst src : Reg) (off : BitVec 16)
  /-- R202, opcode 0x79. -/
  | ldxdw (dst src : Reg) (off : BitVec 16)
  -- Atomic operations (`45_atomic.md`)
  /-- R213, opcode 0xc3 `imm` 0x0. -/
  | atomicAdd32 (dst src : Reg) (off : BitVec 16)
  /-- R213, opcode 0xdb `imm` 0x0. -/
  | atomicAdd64 (dst src : Reg) (off : BitVec 16)
  /-- R214, opcode 0xc3 `imm` 0x1. -/
  | atomicFetchAdd32 (dst src : Reg) (off : BitVec 16)
  /-- R214, opcode 0xdb `imm` 0x1. -/
  | atomicFetchAdd64 (dst src : Reg) (off : BitVec 16)
  /-- R215, opcode 0xc3 `imm` 0x40. -/
  | atomicOr32 (dst src : Reg) (off : BitVec 16)
  /-- R215, opcode 0xdb `imm` 0x40. -/
  | atomicOr64 (dst src : Reg) (off : BitVec 16)
  /-- R216, opcode 0xc3 `imm` 0x41. -/
  | atomicFetchOr32 (dst src : Reg) (off : BitVec 16)
  /-- R216, opcode 0xdb `imm` 0x41. -/
  | atomicFetchOr64 (dst src : Reg) (off : BitVec 16)
  /-- R217, opcode 0xc3 `imm` 0x50. -/
  | atomicAnd32 (dst src : Reg) (off : BitVec 16)
  /-- R217, opcode 0xdb `imm` 0x50. -/
  | atomicAnd64 (dst src : Reg) (off : BitVec 16)
  /-- R218, opcode 0xc3 `imm` 0x51. -/
  | atomicFetchAnd32 (dst src : Reg) (off : BitVec 16)
  /-- R218, opcode 0xdb `imm` 0x51. -/
  | atomicFetchAnd64 (dst src : Reg) (off : BitVec 16)
  /-- R219, opcode 0xc3 `imm` 0xa0. -/
  | atomicXor32 (dst src : Reg) (off : BitVec 16)
  /-- R219, opcode 0xdb `imm` 0xa0. -/
  | atomicXor64 (dst src : Reg) (off : BitVec 16)
  /-- R220, opcode 0xc3 `imm` 0xa1. -/
  | atomicFetchXor32 (dst src : Reg) (off : BitVec 16)
  /-- R220, opcode 0xdb `imm` 0xa1. -/
  | atomicFetchXor64 (dst src : Reg) (off : BitVec 16)
  /-- R221, opcode 0xc3 `imm` 0xe1. -/
  | atomicXchg32 (dst src : Reg) (off : BitVec 16)
  /-- R222, opcode 0xdb `imm` 0xe1. -/
  | atomicXchg64 (dst src : Reg) (off : BitVec 16)
  /-- R223, opcode 0xc3 `imm` 0xf1. -/
  | atomicCmpxchg32 (dst src : Reg) (off : BitVec 16)
  /-- R224, opcode 0xdb `imm` 0xf1. -/
  | atomicCmpxchg64 (dst src : Reg) (off : BitVec 16)
  -- 64-bit immediate load (`46_imm64.md`)
  /-- R230, opcode 0x18. -/
  | ldImm64 (dst : Reg) (imm64 : Word)
  -- Legacy packet access (`47_legacy_packet.md`)
  /-- R235, opcode 0x20; 0x28, 0x30, 0x38: `rest` is bits 63:8 of the word, which no rule reads. -/
  | ldAbs (size : Size) (rest : BitVec 56)
  /-- R235, opcode 0x40; 0x48, 0x50, 0x58: `rest` is bits 63:8 of the word, which no rule reads. -/
  | ldInd (size : Size) (rest : BitVec 56)
deriving DecidableEq, Repr

end Sys2Proof
end

