-- ==== Sys2Proof/Config.lean ====
section
/-! DEFINITION. The launch configuration (`00_scope.md` R7), fixed for a run and changed by no step (`10_state.md` R36), and the
free values: opaque constants, about which nothing can be proved, that stand for values the spec leaves open. -/

namespace Sys2Proof

/-- `HOST_ENDIAN` (`20_memory.md` R40). -/
inductive Endian where
  | little
  | big
deriving DecidableEq, Repr

/-- `ALIGN_POLICY` (`20_memory.md` R43). -/
inductive AlignPolicy where
  | natural
  | any
deriving DecidableEq, Repr

/-- `NEG_READING` (`40_alu64.md` R109): the complement of the source operand, as the source's text has it, or the negation of
the destination. -/
inductive NegReading where
  | source
  | negateDst
deriving DecidableEq, Repr

/-- `IMM64_FORM` (`46_imm64.md` R231): the second word is the immediate, or each word carries half of it. -/
inductive Imm64Form where
  | source
  | split
deriving DecidableEq, Repr

/-- `SHIFT_POLICY` (`40_alu64.md` R107). -/
inductive ShiftPolicy where
  | mask
  | refuse
deriving DecidableEq, Repr

/-- The two treatments `10_state.md` R33 admits for the read of an unwritten register: any value, drawn anew, or the fault
`UninitRegister`. DESIGN CHOICE that it is a parameter of the launch (log entry 5). -/
inductive UnwrittenRead where
  | draw
  | fault
deriving DecidableEq, Repr

/-- `INSN_LAYOUT`, any function from 8 bytes to a word, as plain data (`20_memory.md` R55; log entry 20). `leastFirst`: the word
least significant byte first. `opcodeFirst`: the opcode in byte 0, the register nibbles swapped, PRESUMED `off` and `imm` most
significant byte first. `table`: the function's word for the bytes, given as the word they make least significant byte first; bytes
with no row are read as by `leastFirst`. -/
inductive InsnLayout where
  | leastFirst
  | opcodeFirst
  | table (rows : List (Word × Word))
deriving DecidableEq, Repr

/-- The kind of a data access, as `MEM_ADMIT` distinguishes them (`20_memory.md` R44). -/
inductive AccessKind where
  | read
  | write
  | atomic
deriving DecidableEq, Repr

/-- A piece of the predicate `MEM_ADMIT` (`20_memory.md` R44; log entry 8): the accesses of the listed kinds and sizes in bytes that
lie wholly in a region are admitted. A region as large as one access admits that access alone, so every predicate on (address, size,
kind) is a list of regions. -/
structure Region where
  base : Nat
  size : Nat
  permits : List (AccessKind × Nat)
deriving DecidableEq, Repr

/-- Each of the kinds at each of the four access sizes (`20_memory.md` R42). -/
def everySize (kinds : List AccessKind) : List (AccessKind × Nat) :=
  kinds.flatMap fun k => [(k, 1), (k, 2), (k, 4), (k, 8)]

/-- `ENTRY_ARGS`: the argument registers the platform has written before the first instruction (`10_state.md` R31). -/
structure EntryArgs where
  r1 : Option Word := none
  r2 : Option Word := none
  r3 : Option Word := none
  r4 : Option Word := none
  r5 : Option Word := none
deriving DecidableEq, Repr

/-- The operations of a `FnExpr`, on 64-bit words: unsigned division and remainder, shifts by the count modulo 64, and comparisons
that give 1 or 0. -/
inductive FnOp where
  | add | sub | mul | div | mod | and | or | xor | shl | shr | sar | eq | ult | slt
deriving DecidableEq, Repr

/-- A value that a platform function computes (`43_jump.md` R175; log entry 11): a constant, argument `index + 1`, what data memory
held when it was called, any value (`any k` is one value throughout a call), an operation. -/
inductive FnExpr where
  | const (v : Word)
  | arg (index : Fin 5)
  | mem (addr : FnExpr) (size : Size)
  | any (k : Nat)
  | op (o : FnOp) (a b : FnExpr)
deriving DecidableEq, Repr

/-- A store of a platform function: the low bytes of a value at an address. -/
structure FnStore where
  addr : FnExpr
  size : Size
  value : FnExpr
deriving DecidableEq, Repr

/-- One alternative of the relation that a platform function is (`43_jump.md` R175): where `guard` is not 0 the function may return
`ret` (`none`: no value) and have done the stores, in order. -/
structure FnOutcome where
  guard : FnExpr := .const 1#64
  ret : Option FnExpr
  stores : List FnStore := []
deriving DecidableEq, Repr

/-- One entry of `CALL_TABLE` (`43_jump.md` R175): the `imm` that names the function, its arity, and the function as a relation on
arguments, memory and result, given by its alternatives (log entry 11). Where none of them applies the relation is not narrowed: any
result and any stores. -/
structure PlatformFn where
  key : BitVec 32
  arity : Fin 6
  outcomes : List FnOutcome
deriving DecidableEq, Repr

/-- What the outcome of a called function may depend on: the function, its arguments, the data memory, and which step calls it. -/
structure CallSite where
  key : BitVec 32
  args : List Word
  mem : List Host.Cell
  steps : Nat
deriving DecidableEq, Repr

/-- The parameters of `00_scope.md` R7 (`PROG` stands in the machine's state as its program text). -/
structure Config where
  hostEndian : Endian
  insnLayout : InsnLayout
  /-- `MEM_ADMIT`, beside the stack region, which is always admitted (`20_memory.md` R45). -/
  regions : List Region
  alignPolicy : AlignPolicy
  stackSize : Nat
  fpInit : Word
  entryArgs : EntryArgs
  callTable : List PlatformFn
  negReading : NegReading
  imm64Form : Imm64Form
  shiftPolicy : ShiftPolicy
  unwrittenRead : UnwrittenRead
deriving DecidableEq, Repr

/-- DESIGN CHOICE (log entries 3 and 5): the configuration of the reset state. `00_scope.md` R7 leaves every parameter open; these are
the values the spec takes for its examples, with no data region, no entry argument and no callable function. -/
def Config.launchDefaults : Config where
  hostEndian := .little
  insnLayout := .leastFirst
  regions := []
  alignPolicy := .natural
  stackSize := 512
  fpInit := 0x8000#64
  entryArgs := {}
  callTable := []
  negReading := .source
  imm64Form := .source
  shiftPolicy := .mask
  unwrittenRead := .draw

/-- FREE VALUE (`10_state.md` R33; log entries 5 and 6): what read number `read` of the step with index `steps` gives when it
is a read of the unwritten register number `r`. -/
opaque Config.unwrittenReg : (steps read r : Nat) → Word

/-- FREE VALUE (`20_memory.md` R45, R48; log entry 7): what the byte at an address holds until something writes it. -/
opaque Config.unwrittenByte : (addr : Nat) → Byte

/-- FREE VALUE (`43_jump.md` R175; log entry 11): which of the alternatives that apply a called function takes. -/
opaque Config.callChoice : CallSite → Nat

/-- FREE VALUE (`43_jump.md` R175; log entry 11): the value of an expression that the launch leaves open. -/
opaque Config.callDraw : CallSite → FnExpr → Word

/-- FREE VALUE (`43_jump.md` R175; log entry 11): what a function with no alternative that applies returns. -/
opaque Config.callResult : CallSite → Option Word

/-- FREE VALUE (`43_jump.md` R175; log entry 11): the stores of a function with no alternative that applies, in order. -/
opaque Config.callStores : CallSite → List (Word × Size × Word)

end Sys2Proof
end

