-- ==== Sys2Proof/WellFormed.lean ====
section
/-! DEFINITION. Well-formed instructions: the constraints an encoding puts on a term of `Instr` beyond its type
(`30_encoding.md` R77 items 5 and 6). -/

namespace Sys2Proof

/-- R10 is read-only: it may not stand where an instruction writes a register (`10_state.md` R22). -/
def Reg.writable (r : Reg) : Bool := r != .r10

/-- An instruction that has an encoding under the reading `neg` of `BPF_NEG`. It may not write R10 (`10_state.md` R22); under
`NEG_READING = negate_dst` the register forms of `BPF_NEG` are reserved and the others have no immediate (`40_alu64.md` R109,
`30_encoding.md` R77 item 6, R78). -/
def Instr.wellFormed (neg : NegReading) : Instr → Bool
  | .add64K dst _ => dst.writable
  | .add64X dst _ => dst.writable
  | .sub64K dst _ => dst.writable
  | .sub64X dst _ => dst.writable
  | .mul64K dst _ => dst.writable
  | .mul64X dst _ => dst.writable
  | .div64K dst _ => dst.writable
  | .div64X dst _ => dst.writable
  | .or64K dst _ => dst.writable
  | .or64X dst _ => dst.writable
  | .and64K dst _ => dst.writable
  | .and64X dst _ => dst.writable
  | .lsh64K dst _ => dst.writable
  | .lsh64X dst _ => dst.writable
  | .rsh64K dst _ => dst.writable
  | .rsh64X dst _ => dst.writable
  | .neg64K dst imm => dst.writable && (neg == .source || imm == 0#32)
  | .neg64X dst _ => dst.writable && neg == .source
  | .mod64K dst _ => dst.writable
  | .mod64X dst _ => dst.writable
  | .xor64K dst _ => dst.writable
  | .xor64X dst _ => dst.writable
  | .mov64K dst _ => dst.writable
  | .mov64X dst _ => dst.writable
  | .arsh64K dst _ => dst.writable
  | .arsh64X dst _ => dst.writable
  | .add32K dst _ => dst.writable
  | .add32X dst _ => dst.writable
  | .sub32K dst _ => dst.writable
  | .sub32X dst _ => dst.writable
  | .mul32K dst _ => dst.writable
  | .mul32X dst _ => dst.writable
  | .div32K dst _ => dst.writable
  | .div32X dst _ => dst.writable
  | .or32K dst _ => dst.writable
  | .or32X dst _ => dst.writable
  | .and32K dst _ => dst.writable
  | .and32X dst _ => dst.writable
  | .lsh32K dst _ => dst.writable
  | .lsh32X dst _ => dst.writable
  | .rsh32K dst _ => dst.writable
  | .rsh32X dst _ => dst.writable
  | .neg32K dst imm => dst.writable && (neg == .source || imm == 0#32)
  | .neg32X dst _ => dst.writable && neg == .source
  | .mod32K dst _ => dst.writable
  | .mod32X dst _ => dst.writable
  | .xor32K dst _ => dst.writable
  | .xor32X dst _ => dst.writable
  | .mov32K dst _ => dst.writable
  | .mov32X dst _ => dst.writable
  | .arsh32K dst _ => dst.writable
  | .arsh32X dst _ => dst.writable
  | .le16 dst => dst.writable
  | .le32 dst => dst.writable
  | .le64 dst => dst.writable
  | .be16 dst => dst.writable
  | .be32 dst => dst.writable
  | .be64 dst => dst.writable
  | .ja _ => true
  | .jeqK _ _ _ => true
  | .jeqX _ _ _ => true
  | .jgtK _ _ _ => true
  | .jgtX _ _ _ => true
  | .jgeK _ _ _ => true
  | .jgeX _ _ _ => true
  | .jsetK _ _ _ => true
  | .jsetX _ _ _ => true
  | .jneK _ _ _ => true
  | .jneX _ _ _ => true
  | .jsgtK _ _ _ => true
  | .jsgtX _ _ _ => true
  | .jsgeK _ _ _ => true
  | .jsgeX _ _ _ => true
  | .jltK _ _ _ => true
  | .jltX _ _ _ => true
  | .jleK _ _ _ => true
  | .jleX _ _ _ => true
  | .jsltK _ _ _ => true
  | .jsltX _ _ _ => true
  | .jsleK _ _ _ => true
  | .jsleX _ _ _ => true
  | .jeq32K _ _ _ => true
  | .jeq32X _ _ _ => true
  | .jgt32K _ _ _ => true
  | .jgt32X _ _ _ => true
  | .jge32K _ _ _ => true
  | .jge32X _ _ _ => true
  | .jset32K _ _ _ => true
  | .jset32X _ _ _ => true
  | .jne32K _ _ _ => true
  | .jne32X _ _ _ => true
  | .jsgt32K _ _ _ => true
  | .jsgt32X _ _ _ => true
  | .jsge32K _ _ _ => true
  | .jsge32X _ _ _ => true
  | .jlt32K _ _ _ => true
  | .jlt32X _ _ _ => true
  | .jle32K _ _ _ => true
  | .jle32X _ _ _ => true
  | .jslt32K _ _ _ => true
  | .jslt32X _ _ _ => true
  | .jsle32K _ _ _ => true
  | .jsle32X _ _ _ => true
  | .call _ => true
  | .exit => true
  | .stxw _ _ _ => true
  | .stxh _ _ _ => true
  | .stxb _ _ _ => true
  | .stxdw _ _ _ => true
  | .stw _ _ _ => true
  | .sth _ _ _ => true
  | .stb _ _ _ => true
  | .stdw _ _ _ => true
  | .ldxw dst _ _ => dst.writable
  | .ldxh dst _ _ => dst.writable
  | .ldxb dst _ _ => dst.writable
  | .ldxdw dst _ _ => dst.writable
  | .atomicAdd32 _ _ _ => true
  | .atomicAdd64 _ _ _ => true
  | .atomicFetchAdd32 _ src _ => src.writable
  | .atomicFetchAdd64 _ src _ => src.writable
  | .atomicOr32 _ _ _ => true
  | .atomicOr64 _ _ _ => true
  | .atomicFetchOr32 _ src _ => src.writable
  | .atomicFetchOr64 _ src _ => src.writable
  | .atomicAnd32 _ _ _ => true
  | .atomicAnd64 _ _ _ => true
  | .atomicFetchAnd32 _ src _ => src.writable
  | .atomicFetchAnd64 _ src _ => src.writable
  | .atomicXor32 _ _ _ => true
  | .atomicXor64 _ _ _ => true
  | .atomicFetchXor32 _ src _ => src.writable
  | .atomicFetchXor64 _ src _ => src.writable
  | .atomicXchg32 _ src _ => src.writable
  | .atomicXchg64 _ src _ => src.writable
  | .atomicCmpxchg32 _ _ _ => true
  | .atomicCmpxchg64 _ _ _ => true
  | .ldImm64 dst _ => dst.writable
  | .ldAbs _ _ => true
  | .ldInd _ _ => true

end Sys2Proof
end

