-- ==== Sys2Proof/Decode.lean ====
section
/-! DEFINITION. The decoder of `30_encoding.md` R80, total on any words and any bytes, and after it the encoder. -/

namespace Sys2Proof

/-- Why a word is no instruction: `IllegalInstruction` and `TruncatedWide` of `60_exceptions.md` R241 as the decoder meets them.
Safe: the machine stops with the fault of that name. -/
inductive DecodeError where
  | illegal
  | truncatedWide
deriving DecidableEq, Repr

/-- The five fields of the basic instruction (`30_encoding.md` R61). -/
structure Fields where
  op : BitVec 8
  dst : BitVec 4
  src : BitVec 4
  off : BitVec 16
  imm : BitVec 32
deriving DecidableEq, Repr

/-- The fields of a word, by the bit ranges of `30_encoding.md` R61. -/
def fieldsOf (w : Word) : Fields where
  op := w.extractLsb' 0 8
  dst := w.extractLsb' 8 4
  src := w.extractLsb' 12 4
  off := w.extractLsb' 16 16
  imm := w.extractLsb' 32 32

/-- `W = imm ++ off ++ src ++ dst ++ opcode` (`30_encoding.md` R61). -/
def packFields (f : Fields) : Word := f.imm ++ f.off ++ f.src ++ f.dst ++ f.op

/-- The number that names a register (`10_state.md` R20). -/
def regNumber : Reg → Nat
  | .r0 => 0 | .r1 => 1 | .r2 => 2 | .r3 => 3 | .r4 => 4 | .r5 => 5
  | .r6 => 6 | .r7 => 7 | .r8 => 8 | .r9 => 9 | .r10 => 10

/-- The register a field names: 11 to 15 name none (`10_state.md` R23). -/
def regOf (b : BitVec 4) : Option Reg :=
  match b.toNat with
  | 0 => some .r0 | 1 => some .r1 | 2 => some .r2 | 3 => some .r3 | 4 => some .r4 | 5 => some .r5
  | 6 => some .r6 | 7 => some .r7 | 8 => some .r8 | 9 => some .r9 | 10 => some .r10
  | _ => none

/-- The 4-bit field that names a register. -/
def regField (r : Reg) : BitVec 4 := BitVec.ofNat 4 (regNumber r)

/-- The row of the opcode map that an opcode byte selects: its format (`30_encoding.md` R78), which says which fields are used,
and the instruction it builds from them. Byte swaps and atomics have one instruction for each legal `imm` (R81, R82). -/
inductive Row where
  | aluK (mk : Reg → BitVec 32 → Instr)
  | aluX (mk : Reg → Reg → Instr)
  | byteSwap (byWidth : List (BitVec 32 × (Reg → Instr)))
  | ja
  | jmpK (mk : Reg → BitVec 32 → BitVec 16 → Instr)
  | jmpX (mk : Reg → Reg → BitVec 16 → Instr)
  | call
  | exit
  | ldx (mk : Reg → Reg → BitVec 16 → Instr)
  | st (mk : Reg → BitVec 16 → BitVec 32 → Instr)
  | stx (mk : Reg → Reg → BitVec 16 → Instr)
  | atomic (byOp : List (BitVec 32 × (Reg → Reg → BitVec 16 → Instr)))
  | ldImm64
  | legacy (mk : BitVec 56 → Instr)

/-- The entry of a table under a key. -/
def lookup {n : Nat} {α : Type} (k : BitVec n) : List (BitVec n × α) → Option α
  | [] => none
  | (k', a) :: rest => if k = k' then some a else lookup k rest

/-- The opcode bytes of class `BPF_ALU64` (`30_encoding.md` R67, R83). -/
def alu64Rows : List (BitVec 8 × Row) :=
  [(0x07#8, .aluK .add64K), (0x0f#8, .aluX .add64X),
   (0x17#8, .aluK .sub64K), (0x1f#8, .aluX .sub64X),
   (0x27#8, .aluK .mul64K), (0x2f#8, .aluX .mul64X),
   (0x37#8, .aluK .div64K), (0x3f#8, .aluX .div64X),
   (0x47#8, .aluK .or64K), (0x4f#8, .aluX .or64X),
   (0x57#8, .aluK .and64K), (0x5f#8, .aluX .and64X),
   (0x67#8, .aluK .lsh64K), (0x6f#8, .aluX .lsh64X),
   (0x77#8, .aluK .rsh64K), (0x7f#8, .aluX .rsh64X),
   (0x87#8, .aluK .neg64K), (0x8f#8, .aluX .neg64X),
   (0x97#8, .aluK .mod64K), (0x9f#8, .aluX .mod64X),
   (0xa7#8, .aluK .xor64K), (0xaf#8, .aluX .xor64X),
   (0xb7#8, .aluK .mov64K), (0xbf#8, .aluX .mov64X),
   (0xc7#8, .aluK .arsh64K), (0xcf#8, .aluX .arsh64X)]

/-- The opcode bytes of class `BPF_ALU`, byte swaps apart (`30_encoding.md` R67, R83). -/
def alu32Rows : List (BitVec 8 × Row) :=
  [(0x04#8, .aluK .add32K), (0x0c#8, .aluX .add32X),
   (0x14#8, .aluK .sub32K), (0x1c#8, .aluX .sub32X),
   (0x24#8, .aluK .mul32K), (0x2c#8, .aluX .mul32X),
   (0x34#8, .aluK .div32K), (0x3c#8, .aluX .div32X),
   (0x44#8, .aluK .or32K), (0x4c#8, .aluX .or32X),
   (0x54#8, .aluK .and32K), (0x5c#8, .aluX .and32X),
   (0x64#8, .aluK .lsh32K), (0x6c#8, .aluX .lsh32X),
   (0x74#8, .aluK .rsh32K), (0x7c#8, .aluX .rsh32X),
   (0x84#8, .aluK .neg32K), (0x8c#8, .aluX .neg32X),
   (0x94#8, .aluK .mod32K), (0x9c#8, .aluX .mod32X),
   (0xa4#8, .aluK .xor32K), (0xac#8, .aluX .xor32X),
   (0xb4#8, .aluK .mov32K), (0xbc#8, .aluX .mov32X),
   (0xc4#8, .aluK .arsh32K), (0xcc#8, .aluX .arsh32X)]

/-- The widths of `BPF_TO_LE` (`42_byteswap.md` R140, R141 to R143). -/
def leWidths : List (BitVec 32 × (Reg → Instr)) :=
  [(0x10#32, .le16),
   (0x20#32, .le32),
   (0x40#32, .le64)]

/-- The widths of `BPF_TO_BE` (`42_byteswap.md` R140, R144 to R146). -/
def beWidths : List (BitVec 32 × (Reg → Instr)) :=
  [(0x10#32, .be16),
   (0x20#32, .be32),
   (0x40#32, .be64)]

/-- The opcode bytes of the conditional jumps of class `BPF_JMP` (`30_encoding.md` R68, R83). -/
def jmpRows : List (BitVec 8 × Row) :=
  [(0x15#8, .jmpK .jeqK), (0x1d#8, .jmpX .jeqX),
   (0x25#8, .jmpK .jgtK), (0x2d#8, .jmpX .jgtX),
   (0x35#8, .jmpK .jgeK), (0x3d#8, .jmpX .jgeX),
   (0x45#8, .jmpK .jsetK), (0x4d#8, .jmpX .jsetX),
   (0x55#8, .jmpK .jneK), (0x5d#8, .jmpX .jneX),
   (0x65#8, .jmpK .jsgtK), (0x6d#8, .jmpX .jsgtX),
   (0x75#8, .jmpK .jsgeK), (0x7d#8, .jmpX .jsgeX),
   (0xa5#8, .jmpK .jltK), (0xad#8, .jmpX .jltX),
   (0xb5#8, .jmpK .jleK), (0xbd#8, .jmpX .jleX),
   (0xc5#8, .jmpK .jsltK), (0xcd#8, .jmpX .jsltX),
   (0xd5#8, .jmpK .jsleK), (0xdd#8, .jmpX .jsleX)]

/-- The opcode bytes of the conditional jumps of class `BPF_JMP32` (`30_encoding.md` R68, R83). -/
def jmp32Rows : List (BitVec 8 × Row) :=
  [(0x16#8, .jmpK .jeq32K), (0x1e#8, .jmpX .jeq32X),
   (0x26#8, .jmpK .jgt32K), (0x2e#8, .jmpX .jgt32X),
   (0x36#8, .jmpK .jge32K), (0x3e#8, .jmpX .jge32X),
   (0x46#8, .jmpK .jset32K), (0x4e#8, .jmpX .jset32X),
   (0x56#8, .jmpK .jne32K), (0x5e#8, .jmpX .jne32X),
   (0x66#8, .jmpK .jsgt32K), (0x6e#8, .jmpX .jsgt32X),
   (0x76#8, .jmpK .jsge32K), (0x7e#8, .jmpX .jsge32X),
   (0xa6#8, .jmpK .jlt32K), (0xae#8, .jmpX .jlt32X),
   (0xb6#8, .jmpK .jle32K), (0xbe#8, .jmpX .jle32X),
   (0xc6#8, .jmpK .jslt32K), (0xce#8, .jmpX .jslt32X),
   (0xd6#8, .jmpK .jsle32K), (0xde#8, .jmpX .jsle32X)]

/-- The ten operations of opcode 0xc3, by the whole `imm` field (`30_encoding.md` R82). -/
def atomic32Ops : List (BitVec 32 × (Reg → Reg → BitVec 16 → Instr)) :=
  [(0x0#32, .atomicAdd32),
   (0x1#32, .atomicFetchAdd32),
   (0x40#32, .atomicOr32),
   (0x41#32, .atomicFetchOr32),
   (0x50#32, .atomicAnd32),
   (0x51#32, .atomicFetchAnd32),
   (0xa0#32, .atomicXor32),
   (0xa1#32, .atomicFetchXor32),
   (0xe1#32, .atomicXchg32),
   (0xf1#32, .atomicCmpxchg32)]

/-- The ten operations of opcode 0xdb, by the whole `imm` field (`30_encoding.md` R82). -/
def atomic64Ops : List (BitVec 32 × (Reg → Reg → BitVec 16 → Instr)) :=
  [(0x0#32, .atomicAdd64),
   (0x1#32, .atomicFetchAdd64),
   (0x40#32, .atomicOr64),
   (0x41#32, .atomicFetchOr64),
   (0x50#32, .atomicAnd64),
   (0x51#32, .atomicFetchAnd64),
   (0xa0#32, .atomicXor64),
   (0xa1#32, .atomicFetchXor64),
   (0xe1#32, .atomicXchg64),
   (0xf1#32, .atomicCmpxchg64)]

/-- The opcode bytes of the regular loads and stores (`30_encoding.md` R70, R71, R83). -/
def memRows : List (BitVec 8 × Row) :=
  [(0x63#8, .stx .stxw), (0x6b#8, .stx .stxh), (0x73#8, .stx .stxb), (0x7b#8, .stx .stxdw),
   (0x62#8, .st .stw), (0x6a#8, .st .sth), (0x72#8, .st .stb), (0x7a#8, .st .stdw),
   (0x61#8, .ldx .ldxw), (0x69#8, .ldx .ldxh), (0x71#8, .ldx .ldxb), (0x79#8, .ldx .ldxdw)]

/-- The eight legacy packet opcode bytes (`47_legacy_packet.md` R235). -/
def legacyRows : List (BitVec 8 × Row) :=
  [(0x20#8, .legacy (.ldAbs .w)), (0x28#8, .legacy (.ldAbs .h)), (0x30#8, .legacy (.ldAbs .b)), (0x38#8, .legacy (.ldAbs .dw)),
   (0x40#8, .legacy (.ldInd .w)), (0x48#8, .legacy (.ldInd .h)), (0x50#8, .legacy (.ldInd .b)), (0x58#8, .legacy (.ldInd .dw))]

/-- The opcode bytes that stand alone: `ja`, `call`, `exit`, the byte swaps, the atomics, the wide load. -/
def otherRows : List (BitVec 8 × Row) :=
  [(0x05#8, .ja), (0x85#8, .call), (0x95#8, .exit),
   (0xd4#8, .byteSwap leWidths), (0xdc#8, .byteSwap beWidths),
   (0xc3#8, .atomic atomic32Ops), (0xdb#8, .atomic atomic64Ops),
   (0x18#8, .ldImm64)]

/-- The opcode map (`30_encoding.md` R83): a byte that stands in no entry is reserved (R77 item 1). -/
def opcodeMap : List (BitVec 8 × Row) :=
  legacyRows ++ alu64Rows ++ alu32Rows ++ jmpRows ++ jmp32Rows ++ memRows ++ otherRows

/-- The last check on a decoded instruction: it does not write R10, and its form is legal under `NEG_READING`
(`30_encoding.md` R80 step 5, R77 items 5 and 6). -/
def acceptInstr (neg : NegReading) (i : Instr) : Except DecodeError Instr :=
  if i.wellFormed neg then .ok i else .error .illegal

/-- Build from one register field. -/
def withReg (neg : NegReading) (d : BitVec 4) (mk : Reg → Instr) : Except DecodeError Instr :=
  match regOf d with
  | some dst => acceptInstr neg (mk dst)
  | none => .error .illegal

/-- Build from both register fields. -/
def withRegs (neg : NegReading) (d s : BitVec 4) (mk : Reg → Reg → Instr) : Except DecodeError Instr :=
  match regOf d, regOf s with
  | some dst, some src => acceptInstr neg (mk dst src)
  | _, _ => .error .illegal

/-- The 64-bit immediate load (`46_imm64.md` R230, R231): the checks on the first word come before the one that a second word
exists, and that before the one on the second word's low half (`30_encoding.md` R80 steps 5 and 6). -/
def decodeWide (neg : NegReading) (form : Imm64Form) (f : Fields) (next : Option Word) : Except DecodeError Instr :=
  if f.src = 0#4 ∧ f.off = 0#16 ∧ (form = .split ∨ f.imm = 0#32) then
    match regOf f.dst with
    | none => .error .illegal
    | some dst =>
      if (Instr.ldImm64 dst 0#64).wellFormed neg then
        match next with
        | none => .error .truncatedWide
        | some w2 =>
          match form with
          | .source => .ok (.ldImm64 dst w2)
          | .split =>
            if w2.extractLsb' 0 32 = 0#32 then .ok (.ldImm64 dst (w2.extractLsb' 32 32 ++ f.imm)) else .error .illegal
      else .error .illegal
  else .error .illegal

/-- The checks of one row: unused fields are zero (`30_encoding.md` R62, R78), the selector is legal (R77 items 2 and 3), the
register fields name registers. -/
def buildRow (neg : NegReading) (form : Imm64Form) (w : Word) (f : Fields) (next : Option Word) :
    Row → Except DecodeError Instr
  | .aluK mk =>
    if f.src = 0#4 ∧ f.off = 0#16 then withReg neg f.dst (fun d => mk d f.imm) else .error .illegal
  | .aluX mk =>
    if f.off = 0#16 ∧ f.imm = 0#32 then withRegs neg f.dst f.src mk else .error .illegal
  | .byteSwap byWidth =>
    if f.src = 0#4 ∧ f.off = 0#16 then
      match lookup f.imm byWidth with
      | some mk => withReg neg f.dst mk
      | none => .error .illegal
    else .error .illegal
  | .ja =>
    if f.dst = 0#4 ∧ f.src = 0#4 ∧ f.imm = 0#32 then acceptInstr neg (.ja f.off) else .error .illegal
  | .jmpK mk =>
    if f.src = 0#4 then withReg neg f.dst (fun d => mk d f.imm f.off) else .error .illegal
  | .jmpX mk =>
    if f.imm = 0#32 then withRegs neg f.dst f.src (fun d s => mk d s f.off) else .error .illegal
  | .call =>
    if f.dst = 0#4 ∧ f.src = 0#4 ∧ f.off = 0#16 then acceptInstr neg (.call f.imm) else .error .illegal
  | .exit =>
    if f.dst = 0#4 ∧ f.src = 0#4 ∧ f.off = 0#16 ∧ f.imm = 0#32 then acceptInstr neg .exit else .error .illegal
  | .ldx mk =>
    if f.imm = 0#32 then withRegs neg f.dst f.src (fun d s => mk d s f.off) else .error .illegal
  | .st mk =>
    if f.src = 0#4 then withReg neg f.dst (fun d => mk d f.off f.imm) else .error .illegal
  | .stx mk =>
    if f.imm = 0#32 then withRegs neg f.dst f.src (fun d s => mk d s f.off) else .error .illegal
  | .atomic byOp =>
    match lookup f.imm byOp with
    | some mk => withRegs neg f.dst f.src (fun d s => mk d s f.off)
    | none => .error .illegal
  | .ldImm64 => decodeWide neg form f next
  | .legacy mk => acceptInstr neg (mk (w.extractLsb' 8 56))

/-- The decoder (`30_encoding.md` R80 steps 2 to 6) on the word of a slot and the word of the slot after it, if there is one. -/
def decode (neg : NegReading) (form : Imm64Form) (w : Word) (next : Option Word) : Except DecodeError Instr :=
  match lookup (fieldsOf w).op opcodeMap with
  | some row => buildRow neg form w (fieldsOf w) next row
  | none => .error .illegal

/-- An instruction is wide if and only if its first word has opcode 0x18 (`30_encoding.md` R76). -/
def isWideWord (w : Word) : Bool := (fieldsOf w).op == 0x18#8

/-- The first instruction of a list of words, and the words after it. `none`: there is no word. -/
def decodeWords (neg : NegReading) (form : Imm64Form) : List Word → Option (Except DecodeError (Instr × List Word))
  | [] => none
  | w :: rest =>
    match decode neg form w rest.head? with
    | .ok i => some (.ok (i, if isWideWord w then rest.tail else rest))
    | .error e => some (.error e)

/-! ### The encoder -/

/-- The word of a basic instruction from its opcode byte, register fields, offset and immediate (`30_encoding.md` R61). -/
def basicWord (op : BitVec 8) (dst src : BitVec 4) (off : BitVec 16) (imm : BitVec 32) : Word :=
  packFields ⟨op, dst, src, off, imm⟩

/-- The opcode byte of a legacy packet load: mode and size (`30_encoding.md` R69 to R71). -/
def legacyOpcode (mode : BitVec 8) : Size → BitVec 8
  | .w => mode ||| 0x00#8
  | .h => mode ||| 0x08#8
  | .b => mode ||| 0x10#8
  | .dw => mode ||| 0x18#8

/-- The words of an instruction (`30_encoding.md` R61, R75, R78, R83): one, or two for the 64-bit immediate load. -/
def encode (form : Imm64Form) : Instr → List Word
  | .add64K dst imm => [basicWord 0x07#8 (regField dst) 0#4 0#16 imm]
  | .add64X dst src => [basicWord 0x0f#8 (regField dst) (regField src) 0#16 0#32]
  | .sub64K dst imm => [basicWord 0x17#8 (regField dst) 0#4 0#16 imm]
  | .sub64X dst src => [basicWord 0x1f#8 (regField dst) (regField src) 0#16 0#32]
  | .mul64K dst imm => [basicWord 0x27#8 (regField dst) 0#4 0#16 imm]
  | .mul64X dst src => [basicWord 0x2f#8 (regField dst) (regField src) 0#16 0#32]
  | .div64K dst imm => [basicWord 0x37#8 (regField dst) 0#4 0#16 imm]
  | .div64X dst src => [basicWord 0x3f#8 (regField dst) (regField src) 0#16 0#32]
  | .or64K dst imm => [basicWord 0x47#8 (regField dst) 0#4 0#16 imm]
  | .or64X dst src => [basicWord 0x4f#8 (regField dst) (regField src) 0#16 0#32]
  | .and64K dst imm => [basicWord 0x57#8 (regField dst) 0#4 0#16 imm]
  | .and64X dst src => [basicWord 0x5f#8 (regField dst) (regField src) 0#16 0#32]
  | .lsh64K dst imm => [basicWord 0x67#8 (regField dst) 0#4 0#16 imm]
  | .lsh64X dst src => [basicWord 0x6f#8 (regField dst) (regField src) 0#16 0#32]
  | .rsh64K dst imm => [basicWord 0x77#8 (regField dst) 0#4 0#16 imm]
  | .rsh64X dst src => [basicWord 0x7f#8 (regField dst) (regField src) 0#16 0#32]
  | .neg64K dst imm => [basicWord 0x87#8 (regField dst) 0#4 0#16 imm]
  | .neg64X dst src => [basicWord 0x8f#8 (regField dst) (regField src) 0#16 0#32]
  | .mod64K dst imm => [basicWord 0x97#8 (regField dst) 0#4 0#16 imm]
  | .mod64X dst src => [basicWord 0x9f#8 (regField dst) (regField src) 0#16 0#32]
  | .xor64K dst imm => [basicWord 0xa7#8 (regField dst) 0#4 0#16 imm]
  | .xor64X dst src => [basicWord 0xaf#8 (regField dst) (regField src) 0#16 0#32]
  | .mov64K dst imm => [basicWord 0xb7#8 (regField dst) 0#4 0#16 imm]
  | .mov64X dst src => [basicWord 0xbf#8 (regField dst) (regField src) 0#16 0#32]
  | .arsh64K dst imm => [basicWord 0xc7#8 (regField dst) 0#4 0#16 imm]
  | .arsh64X dst src => [basicWord 0xcf#8 (regField dst) (regField src) 0#16 0#32]
  | .add32K dst imm => [basicWord 0x04#8 (regField dst) 0#4 0#16 imm]
  | .add32X dst src => [basicWord 0x0c#8 (regField dst) (regField src) 0#16 0#32]
  | .sub32K dst imm => [basicWord 0x14#8 (regField dst) 0#4 0#16 imm]
  | .sub32X dst src => [basicWord 0x1c#8 (regField dst) (regField src) 0#16 0#32]
  | .mul32K dst imm => [basicWord 0x24#8 (regField dst) 0#4 0#16 imm]
  | .mul32X dst src => [basicWord 0x2c#8 (regField dst) (regField src) 0#16 0#32]
  | .div32K dst imm => [basicWord 0x34#8 (regField dst) 0#4 0#16 imm]
  | .div32X dst src => [basicWord 0x3c#8 (regField dst) (regField src) 0#16 0#32]
  | .or32K dst imm => [basicWord 0x44#8 (regField dst) 0#4 0#16 imm]
  | .or32X dst src => [basicWord 0x4c#8 (regField dst) (regField src) 0#16 0#32]
  | .and32K dst imm => [basicWord 0x54#8 (regField dst) 0#4 0#16 imm]
  | .and32X dst src => [basicWord 0x5c#8 (regField dst) (regField src) 0#16 0#32]
  | .lsh32K dst imm => [basicWord 0x64#8 (regField dst) 0#4 0#16 imm]
  | .lsh32X dst src => [basicWord 0x6c#8 (regField dst) (regField src) 0#16 0#32]
  | .rsh32K dst imm => [basicWord 0x74#8 (regField dst) 0#4 0#16 imm]
  | .rsh32X dst src => [basicWord 0x7c#8 (regField dst) (regField src) 0#16 0#32]
  | .neg32K dst imm => [basicWord 0x84#8 (regField dst) 0#4 0#16 imm]
  | .neg32X dst src => [basicWord 0x8c#8 (regField dst) (regField src) 0#16 0#32]
  | .mod32K dst imm => [basicWord 0x94#8 (regField dst) 0#4 0#16 imm]
  | .mod32X dst src => [basicWord 0x9c#8 (regField dst) (regField src) 0#16 0#32]
  | .xor32K dst imm => [basicWord 0xa4#8 (regField dst) 0#4 0#16 imm]
  | .xor32X dst src => [basicWord 0xac#8 (regField dst) (regField src) 0#16 0#32]
  | .mov32K dst imm => [basicWord 0xb4#8 (regField dst) 0#4 0#16 imm]
  | .mov32X dst src => [basicWord 0xbc#8 (regField dst) (regField src) 0#16 0#32]
  | .arsh32K dst imm => [basicWord 0xc4#8 (regField dst) 0#4 0#16 imm]
  | .arsh32X dst src => [basicWord 0xcc#8 (regField dst) (regField src) 0#16 0#32]
  | .le16 dst => [basicWord 0xd4#8 (regField dst) 0#4 0#16 0x10#32]
  | .le32 dst => [basicWord 0xd4#8 (regField dst) 0#4 0#16 0x20#32]
  | .le64 dst => [basicWord 0xd4#8 (regField dst) 0#4 0#16 0x40#32]
  | .be16 dst => [basicWord 0xdc#8 (regField dst) 0#4 0#16 0x10#32]
  | .be32 dst => [basicWord 0xdc#8 (regField dst) 0#4 0#16 0x20#32]
  | .be64 dst => [basicWord 0xdc#8 (regField dst) 0#4 0#16 0x40#32]
  | .ja off => [basicWord 0x05#8 0#4 0#4 off 0#32]
  | .jeqK dst imm off => [basicWord 0x15#8 (regField dst) 0#4 off imm]
  | .jeqX dst src off => [basicWord 0x1d#8 (regField dst) (regField src) off 0#32]
  | .jgtK dst imm off => [basicWord 0x25#8 (regField dst) 0#4 off imm]
  | .jgtX dst src off => [basicWord 0x2d#8 (regField dst) (regField src) off 0#32]
  | .jgeK dst imm off => [basicWord 0x35#8 (regField dst) 0#4 off imm]
  | .jgeX dst src off => [basicWord 0x3d#8 (regField dst) (regField src) off 0#32]
  | .jsetK dst imm off => [basicWord 0x45#8 (regField dst) 0#4 off imm]
  | .jsetX dst src off => [basicWord 0x4d#8 (regField dst) (regField src) off 0#32]
  | .jneK dst imm off => [basicWord 0x55#8 (regField dst) 0#4 off imm]
  | .jneX dst src off => [basicWord 0x5d#8 (regField dst) (regField src) off 0#32]
  | .jsgtK dst imm off => [basicWord 0x65#8 (regField dst) 0#4 off imm]
  | .jsgtX dst src off => [basicWord 0x6d#8 (regField dst) (regField src) off 0#32]
  | .jsgeK dst imm off => [basicWord 0x75#8 (regField dst) 0#4 off imm]
  | .jsgeX dst src off => [basicWord 0x7d#8 (regField dst) (regField src) off 0#32]
  | .jltK dst imm off => [basicWord 0xa5#8 (regField dst) 0#4 off imm]
  | .jltX dst src off => [basicWord 0xad#8 (regField dst) (regField src) off 0#32]
  | .jleK dst imm off => [basicWord 0xb5#8 (regField dst) 0#4 off imm]
  | .jleX dst src off => [basicWord 0xbd#8 (regField dst) (regField src) off 0#32]
  | .jsltK dst imm off => [basicWord 0xc5#8 (regField dst) 0#4 off imm]
  | .jsltX dst src off => [basicWord 0xcd#8 (regField dst) (regField src) off 0#32]
  | .jsleK dst imm off => [basicWord 0xd5#8 (regField dst) 0#4 off imm]
  | .jsleX dst src off => [basicWord 0xdd#8 (regField dst) (regField src) off 0#32]
  | .jeq32K dst imm off => [basicWord 0x16#8 (regField dst) 0#4 off imm]
  | .jeq32X dst src off => [basicWord 0x1e#8 (regField dst) (regField src) off 0#32]
  | .jgt32K dst imm off => [basicWord 0x26#8 (regField dst) 0#4 off imm]
  | .jgt32X dst src off => [basicWord 0x2e#8 (regField dst) (regField src) off 0#32]
  | .jge32K dst imm off => [basicWord 0x36#8 (regField dst) 0#4 off imm]
  | .jge32X dst src off => [basicWord 0x3e#8 (regField dst) (regField src) off 0#32]
  | .jset32K dst imm off => [basicWord 0x46#8 (regField dst) 0#4 off imm]
  | .jset32X dst src off => [basicWord 0x4e#8 (regField dst) (regField src) off 0#32]
  | .jne32K dst imm off => [basicWord 0x56#8 (regField dst) 0#4 off imm]
  | .jne32X dst src off => [basicWord 0x5e#8 (regField dst) (regField src) off 0#32]
  | .jsgt32K dst imm off => [basicWord 0x66#8 (regField dst) 0#4 off imm]
  | .jsgt32X dst src off => [basicWord 0x6e#8 (regField dst) (regField src) off 0#32]
  | .jsge32K dst imm off => [basicWord 0x76#8 (regField dst) 0#4 off imm]
  | .jsge32X dst src off => [basicWord 0x7e#8 (regField dst) (regField src) off 0#32]
  | .jlt32K dst imm off => [basicWord 0xa6#8 (regField dst) 0#4 off imm]
  | .jlt32X dst src off => [basicWord 0xae#8 (regField dst) (regField src) off 0#32]
  | .jle32K dst imm off => [basicWord 0xb6#8 (regField dst) 0#4 off imm]
  | .jle32X dst src off => [basicWord 0xbe#8 (regField dst) (regField src) off 0#32]
  | .jslt32K dst imm off => [basicWord 0xc6#8 (regField dst) 0#4 off imm]
  | .jslt32X dst src off => [basicWord 0xce#8 (regField dst) (regField src) off 0#32]
  | .jsle32K dst imm off => [basicWord 0xd6#8 (regField dst) 0#4 off imm]
  | .jsle32X dst src off => [basicWord 0xde#8 (regField dst) (regField src) off 0#32]
  | .call imm => [basicWord 0x85#8 0#4 0#4 0#16 imm]
  | .exit => [basicWord 0x95#8 0#4 0#4 0#16 0#32]
  | .stxw dst src off => [basicWord 0x63#8 (regField dst) (regField src) off 0#32]
  | .stxh dst src off => [basicWord 0x6b#8 (regField dst) (regField src) off 0#32]
  | .stxb dst src off => [basicWord 0x73#8 (regField dst) (regField src) off 0#32]
  | .stxdw dst src off => [basicWord 0x7b#8 (regField dst) (regField src) off 0#32]
  | .stw dst off imm => [basicWord 0x62#8 (regField dst) 0#4 off imm]
  | .sth dst off imm => [basicWord 0x6a#8 (regField dst) 0#4 off imm]
  | .stb dst off imm => [basicWord 0x72#8 (regField dst) 0#4 off imm]
  | .stdw dst off imm => [basicWord 0x7a#8 (regField dst) 0#4 off imm]
  | .ldxw dst src off => [basicWord 0x61#8 (regField dst) (regField src) off 0#32]
  | .ldxh dst src off => [basicWord 0x69#8 (regField dst) (regField src) off 0#32]
  | .ldxb dst src off => [basicWord 0x71#8 (regField dst) (regField src) off 0#32]
  | .ldxdw dst src off => [basicWord 0x79#8 (regField dst) (regField src) off 0#32]
  | .atomicAdd32 dst src off => [basicWord 0xc3#8 (regField dst) (regField src) off 0x0#32]
  | .atomicAdd64 dst src off => [basicWord 0xdb#8 (regField dst) (regField src) off 0x0#32]
  | .atomicFetchAdd32 dst src off => [basicWord 0xc3#8 (regField dst) (regField src) off 0x1#32]
  | .atomicFetchAdd64 dst src off => [basicWord 0xdb#8 (regField dst) (regField src) off 0x1#32]
  | .atomicOr32 dst src off => [basicWord 0xc3#8 (regField dst) (regField src) off 0x40#32]
  | .atomicOr64 dst src off => [basicWord 0xdb#8 (regField dst) (regField src) off 0x40#32]
  | .atomicFetchOr32 dst src off => [basicWord 0xc3#8 (regField dst) (regField src) off 0x41#32]
  | .atomicFetchOr64 dst src off => [basicWord 0xdb#8 (regField dst) (regField src) off 0x41#32]
  | .atomicAnd32 dst src off => [basicWord 0xc3#8 (regField dst) (regField src) off 0x50#32]
  | .atomicAnd64 dst src off => [basicWord 0xdb#8 (regField dst) (regField src) off 0x50#32]
  | .atomicFetchAnd32 dst src off => [basicWord 0xc3#8 (regField dst) (regField src) off 0x51#32]
  | .atomicFetchAnd64 dst src off => [basicWord 0xdb#8 (regField dst) (regField src) off 0x51#32]
  | .atomicXor32 dst src off => [basicWord 0xc3#8 (regField dst) (regField src) off 0xa0#32]
  | .atomicXor64 dst src off => [basicWord 0xdb#8 (regField dst) (regField src) off 0xa0#32]
  | .atomicFetchXor32 dst src off => [basicWord 0xc3#8 (regField dst) (regField src) off 0xa1#32]
  | .atomicFetchXor64 dst src off => [basicWord 0xdb#8 (regField dst) (regField src) off 0xa1#32]
  | .atomicXchg32 dst src off => [basicWord 0xc3#8 (regField dst) (regField src) off 0xe1#32]
  | .atomicXchg64 dst src off => [basicWord 0xdb#8 (regField dst) (regField src) off 0xe1#32]
  | .atomicCmpxchg32 dst src off => [basicWord 0xc3#8 (regField dst) (regField src) off 0xf1#32]
  | .atomicCmpxchg64 dst src off => [basicWord 0xdb#8 (regField dst) (regField src) off 0xf1#32]
  | .ldImm64 dst imm64 =>
    match form with
    | .source => [basicWord 0x18#8 (regField dst) 0#4 0#16 0#32, imm64]
    | .split => [basicWord 0x18#8 (regField dst) 0#4 0#16 (imm64.extractLsb' 0 32), imm64.extractLsb' 32 32 ++ 0#32]
  | .ldAbs size rest => [rest ++ legacyOpcode 0x20#8 size]
  | .ldInd size rest => [rest ++ legacyOpcode 0x40#8 size]

/-- The first word of an instruction: the `W` that a fault reports (`60_exceptions.md` R241). -/
def firstWord (form : Imm64Form) (i : Instr) : Word := (encode form i).headD 0#64

/-! ### A program given as bytes -/

/-- One instruction word from its eight bytes, by `INSN_LAYOUT` (`20_memory.md` R55; log entry 20). -/
def wordOfBytes (layout : InsnLayout) (b0 b1 b2 b3 b4 b5 b6 b7 : Byte) : Word :=
  let leastFirst : Word := b7 ++ b6 ++ b5 ++ b4 ++ b3 ++ b2 ++ b1 ++ b0
  match layout with
  | .leastFirst => leastFirst
  | .opcodeFirst => b4 ++ b5 ++ b6 ++ b7 ++ b2 ++ b3 ++ (b1.extractLsb' 0 4 ++ b1.extractLsb' 4 4) ++ b0
  | .table rows => (lookup leastFirst rows).getD leastFirst

/-- The eight bytes of an instruction word in the layout `leastFirst`, the first at the lowest address (`20_memory.md` R55). -/
def bytesLeastFirst (w : Word) : List Byte := (List.range 8).map fun k => w.extractLsb' (8 * k) 8

/-- The eight bytes of an instruction word in the layout `opcodeFirst` (`20_memory.md` R55; log entry 20). -/
def bytesOpcodeFirst (w : Word) : List Byte :=
  [w.extractLsb' 0 8, w.extractLsb' 8 4 ++ w.extractLsb' 12 4, w.extractLsb' 24 8, w.extractLsb' 16 8,
   w.extractLsb' 56 8, w.extractLsb' 48 8, w.extractLsb' 40 8, w.extractLsb' 32 8]

/-- The program text of a byte string (`20_memory.md` R55). `none`: the bytes do not fill whole slots (log entry 28). -/
def programOfBytes (layout : InsnLayout) : List Byte → Option (List Word)
  | [] => some []
  | b0 :: b1 :: b2 :: b3 :: b4 :: b5 :: b6 :: b7 :: rest =>
    match programOfBytes layout rest with
    | some ws => some (wordOfBytes layout b0 b1 b2 b3 b4 b5 b6 b7 :: ws)
    | none => none
  | _ => none

/-- The instruction whose bits are `w` (bit 0 the least significant bit of the first word), read with the default readings that
the masks of `spec/opcode_table.json` assume (`30_encoding.md` R86; log entry 25). Bits from `nbits` up are zero. -/
def decodeTableWord (nbits w : Nat) : Option Instr :=
  let bits := w % 2 ^ nbits
  match decode .source .source (BitVec.ofNat 64 bits) (some (BitVec.ofNat 64 (bits / 2 ^ 64))) with
  | .ok i => some i
  | .error _ => none

end Sys2Proof
end

