-- ==== Sys2Proof/Machine/State.lean ====
section
/-! DEFINITION. The state of the eBPF machine (`10_state.md` R36), the reasons a step can stop, and the state at entry
(`70_reset_and_hazards.md` R270). -/

namespace Sys2Proof.Machine

/-- The faults (`60_exceptions.md` R241), and one of the model's own. Each ends the run with the state unchanged (R240). Safe: nothing
but the stop itself can be proved of a run that reaches one. -/
inductive Fault where
  /-- R244: raised by the fetch when the slot is outside the program text. Safe. -/
  | pcOutOfRange (slot : Int)
  /-- R245: raised by the fetch when the slot is the second slot of a wide instruction. Safe. -/
  | jumpIntoWide (slot : Int)
  /-- R243: raised by the decoder, and by a meaning given an instruction that has no encoding (log entry 18). Safe. -/
  | illegalInstruction (pc : Int) (word : Word)
  /-- R246: raised by the decoder when the second word of the wide load is missing. Safe. -/
  | truncatedWide (pc : Int)
  /-- R247: raised by the read of an unwritten register, in a launch that asks for it (log entry 5). Safe. -/
  | uninitRegister (pc : Int) (reg : Reg)
  /-- R248: raised by a load, store or atomic operation. Safe. -/
  | misalignedAccess (pc : Int) (addr : Word) (size : Nat)
  /-- R249: raised by a load, store or atomic operation that `MEM_ADMIT` does not admit or that runs past the top. Safe. -/
  | memoryFault (pc : Int) (addr : Word) (size : Nat) (kind : AccessKind)
  /-- The model's own (`70_reset_and_hazards.md` R274; log entry 15): a run that has ended has no successor. Safe: a stuck state. -/
  | notRunning
deriving DecidableEq, Repr

/-- The refusals (`60_exceptions.md` R242): no claim covers a run that reaches one. -/
inductive Refusal where
  /-- Raised by an arm of `exec` that has no meaning yet; this model has none. Safe. -/
  | notModelled (mnemonic : String)
  /-- `47_legacy_packet.md` R235: raised by the legacy packet loads. Safe. -/
  | legacyPacketAccess
  /-- `43_jump.md` R175: raised by a call whose `imm` is not in `CALL_TABLE`. Safe. -/
  | unknownCall (imm : BitVec 32)
  /-- `40_alu64.md` R107: raised by a shift under `SHIFT_POLICY = refuse`. Safe. -/
  | shiftCount
deriving DecidableEq, Repr

/-- The status of a run (`10_state.md` R36). `faulted` holds the fault record (`60_exceptions.md` R240). -/
inductive Status where
  | running
  | exited (value : Word)
  | faulted (record : Fault)
  | refused (reason : Refusal)
deriving DecidableEq, Repr

/-- The eleven registers (`10_state.md` R20). -/
structure RegFile where
  r0 : Word
  r1 : Word
  r2 : Word
  r3 : Word
  r4 : Word
  r5 : Word
  r6 : Word
  r7 : Word
  r8 : Word
  r9 : Word
  r10 : Word
deriving DecidableEq, Repr

/-- The marks "written" of R0 to R9 (`10_state.md` R33, R36). R10 is always written and has none. -/
structure Marks where
  r0 : Bool
  r1 : Bool
  r2 : Bool
  r3 : Bool
  r4 : Bool
  r5 : Bool
  r6 : Bool
  r7 : Bool
  r8 : Bool
  r9 : Bool
deriving DecidableEq, Repr

/-- The state (`10_state.md` R36), the launch configuration beside it (log entry 2). `steps` is the model's own: it counts
completed steps and indexes the free values (`70_reset_and_hazards.md` R278; log entry 23). -/
structure State where
  regs : RegFile
  written : Marks
  /-- In slots; an integer, so that a jump below slot 0 faults at the fetch (`43_jump.md` R151; log entry 1). -/
  pc : Int
  /-- Data memory: addresses strictly rising, a byte for each address something has written (log entry 7). -/
  mem : List Host.Cell
  /-- The program text `PROG` (`10_state.md` R29). -/
  prog : List Word
  status : Status
  cfg : Config
  steps : Nat
deriving DecidableEq, Repr

/-- What a step answers. -/
abbrev Out := Host.Outcome State Fault Refusal

/-- The state when the first instruction executes (`10_state.md` R31, `70_reset_and_hazards.md` R270), for any configuration,
program and contents of memory. A register nothing has written holds 0 behind a mark that is false (DESIGN CHOICE, log entry 4). -/
def State.launch (cfg : Config) (prog : List Word) (mem : List Host.Cell) : State where
  regs :=
    { r0 := 0#64, r1 := cfg.entryArgs.r1.getD 0#64, r2 := cfg.entryArgs.r2.getD 0#64, r3 := cfg.entryArgs.r3.getD 0#64,
      r4 := cfg.entryArgs.r4.getD 0#64, r5 := cfg.entryArgs.r5.getD 0#64, r6 := 0#64, r7 := 0#64, r8 := 0#64, r9 := 0#64,
      r10 := cfg.fpInit }
  written :=
    { r0 := false, r1 := cfg.entryArgs.r1.isSome, r2 := cfg.entryArgs.r2.isSome, r3 := cfg.entryArgs.r3.isSome,
      r4 := cfg.entryArgs.r4.isSome, r5 := cfg.entryArgs.r5.isSome, r6 := false, r7 := false, r8 := false, r9 := false }
  pc := 0
  mem := mem
  prog := prog
  status := .running
  cfg := cfg
  steps := 0

/-- The machine at entry with the configuration of log entry 3, no program and no memory contents (log entry 10). -/
def State.reset : State := State.launch Config.launchDefaults [] []

end Sys2Proof.Machine
end

