-- ==== Sys2Proof/Machine/Ops.lean ====
section
/-! DEFINITION. The named operations over registers, data memory and the end of a step, and raising a fault. -/

namespace Sys2Proof.Machine

/-! ### Registers -/

/-- The content of a register, whatever its mark. -/
def RegFile.get (f : RegFile) : Reg → Word
  | .r0 => f.r0 | .r1 => f.r1 | .r2 => f.r2 | .r3 => f.r3 | .r4 => f.r4 | .r5 => f.r5
  | .r6 => f.r6 | .r7 => f.r7 | .r8 => f.r8 | .r9 => f.r9 | .r10 => f.r10

/-- Replace the content of a register; R10 is never written (`10_state.md` R22). -/
def RegFile.set (f : RegFile) (r : Reg) (v : Word) : RegFile :=
  match r with
  | .r0 => { f with r0 := v } | .r1 => { f with r1 := v } | .r2 => { f with r2 := v } | .r3 => { f with r3 := v }
  | .r4 => { f with r4 := v } | .r5 => { f with r5 := v } | .r6 => { f with r6 := v } | .r7 => { f with r7 := v }
  | .r8 => { f with r8 := v } | .r9 => { f with r9 := v } | .r10 => f

/-- Whether a register holds a value (`10_state.md` R33): R10 always does. -/
def Marks.get (m : Marks) : Reg → Bool
  | .r0 => m.r0 | .r1 => m.r1 | .r2 => m.r2 | .r3 => m.r3 | .r4 => m.r4 | .r5 => m.r5
  | .r6 => m.r6 | .r7 => m.r7 | .r8 => m.r8 | .r9 => m.r9 | .r10 => true

/-- Set the mark of a register; R10 has none. -/
def Marks.set (m : Marks) (r : Reg) (b : Bool) : Marks :=
  match r with
  | .r0 => { m with r0 := b } | .r1 => { m with r1 := b } | .r2 => { m with r2 := b } | .r3 => { m with r3 := b }
  | .r4 => { m with r4 := b } | .r5 => { m with r5 := b } | .r6 => { m with r6 := b } | .r7 => { m with r7 := b }
  | .r8 => { m with r8 := b } | .r9 => { m with r9 := b } | .r10 => m

/-- The mark "written" of a register (`10_state.md` R33). -/
def State.isWritten (s : State) (r : Reg) : Bool := s.written.get r

/-- `x[r]` as read number `k` of this step gives it (0 the first operand, 1 the second, 2 the third): the content of a written register;
for an unwritten one a free value, another at each read of each step (`10_state.md` R33; log entries 5 and 6). -/
def State.value (s : State) (k : Nat) (r : Reg) : Word :=
  if s.isWritten r then s.regs.get r else Config.unwrittenReg s.steps k (regNumber r)

/-- Whether a read of the register gives a value: it is written, or the launch draws (`10_state.md` R33; log entry 5). -/
def State.readable (s : State) (r : Reg) : Bool := s.isWritten r || s.cfg.unwrittenRead == .draw

/-- `x[r] <- v`: the register becomes written (`10_state.md` R33). On R10 it changes nothing: R10 is never written (R22), and every
meaning that would write it has raised `IllegalInstruction` before (see `legal`). -/
def State.setReg (s : State) (r : Reg) (v : Word) : State :=
  { s with regs := s.regs.set r v, written := s.written.set r true }

/-- The register becomes unwritten (`10_state.md` R33); what it stored is behind its mark (log entry 24). -/
def State.clearReg (s : State) (r : Reg) : State := { s with written := s.written.set r false }

/-! ### The end of a step -/

/-- A completed step of `n` slots (`10_state.md` R25). -/
def State.advance (s : State) (n : Int) : State := { s with pc := s.pc + n, steps := s.steps + 1 }

/-- Raising a fault (`60_exceptions.md` R240, R253): the step ends in the fault and its information. Nothing is saved, no mode
changes, no handler runs; there is no return from a fault (R254). -/
def raise (f : Fault) : Out := .fault f

/-- Refusing a step (`60_exceptions.md` R242). -/
def refuse (r : Refusal) : Out := .refused r

/-- What a run is left in when its step from `s` answers `o` (`60_exceptions.md` R240, R242): after a fault or a refusal the state before
the step, with the record of it. -/
def State.settle (s : State) : Out → State
  | .next t => t
  | .fault f => { s with status := .faulted f }
  | .refused r => { s with status := .refused r }

/-- The instruction has an encoding, else `IllegalInstruction(pc, W)` before any register is read (`60_exceptions.md` R243; log entry
18). The decoder gives only instructions that pass. -/
def legal (i : Instr) (s : State) (k : Out) : Out :=
  if i.wellFormed s.cfg.negReading then k else raise (.illegalInstruction s.pc (firstWord s.cfg.imm64Form i))

/-- Read a register as read number `n` of the step, or `UninitRegister(pc, i)` (`60_exceptions.md` R247). -/
def readReg (n : Nat) (r : Reg) (s : State) (k : Word → Out) : Out :=
  if s.readable r then k (s.value n r) else raise (.uninitRegister s.pc r)

/-- Read different registers in order, the first unwritten one reported (`60_exceptions.md` R247). -/
def readRegs (rs : List Reg) (s : State) (k : List Word → Out) : Out :=
  match rs with
  | [] => k []
  | r :: rest => readReg 0 r s fun v => readRegs rest s fun vs => k (v :: vs)

/-- Write the result and go on to the next slot. -/
def State.finish (s : State) (dst : Reg) (v : Word) : State := (s.setReg dst v).advance 1

/-! ### Bytes and byte order -/

/-- The number of bytes of a size (`30_encoding.md` R71). -/
def sizeBytes : Size → Nat
  | .b => 1 | .h => 2 | .w => 4 | .dw => 8

/-- The low `n` bytes of a value, least significant first. -/
def bytesLE (n : Nat) (v : Word) : List Byte :=
  match n with
  | 0 => []
  | n + 1 => v.extractLsb' 0 8 :: bytesLE n (v >>> 8)

/-- The value of bytes given least significant first. -/
def ofBytesLE : List Byte → Word
  | [] => 0#64
  | b :: rest => (ofBytesLE rest <<< 8) ||| b.setWidth 64

/-- Bytes least significant first, put into the order of the host, or back (`20_memory.md` R41). -/
def hostOrder (e : Endian) (bs : List Byte) : List Byte :=
  match e with
  | .little => bs
  | .big => bs.reverse

/-- `bswap_N` (`00_scope.md` R10): the low `n` bytes of a value in the opposite order, zero extended. -/
def swapBytes (n : Nat) (v : Word) : Word := ofBytesLE (bytesLE n v).reverse

/-- The low bits of a value of a size, zero extended. -/
def lowBits (size : Size) (v : Word) : Word :=
  match size with
  | .b => (v.setWidth 8).setWidth 64
  | .h => (v.setWidth 16).setWidth 64
  | .w => (v.setWidth 32).setWidth 64
  | .dw => v

/-! ### Data memory -/

/-- The addresses rise strictly from `lo` on and lie in the 64-bit address space (`10_state.md` R29). -/
def memSortedFrom (lo : Nat) : List Host.Cell → Bool
  | [] => true
  | (a, _) :: rest => decide (lo ≤ a) && decide (a < 2 ^ 64) && memSortedFrom (a + 1) rest

/-- The canonical form of data memory: strictly rising 64-bit addresses. An unlisted address has no value, so no entry can equal what
it reads as (log entry 7). -/
def Memory.wf (m : List Host.Cell) : Bool := memSortedFrom 0 m

/-- The byte something has written at an address; an unlisted address has none (`20_memory.md` R45; log entry 7). -/
def memByte? (m : List Host.Cell) (a : Nat) : Option Byte :=
  match m with
  | [] => none
  | (a', b) :: rest => if a = a' then some b else memByte? rest a

/-- What a read of one byte gives: what was written, else the free byte of that address (`20_memory.md` R45, R48; log entry 7). -/
def memByte (m : List Host.Cell) (a : Nat) : Byte := (memByte? m a).getD (Config.unwrittenByte a)

/-- Write one byte, keeping the canonical form. -/
def memSet (m : List Host.Cell) (a : Nat) (b : Byte) : List Host.Cell :=
  match m with
  | [] => [(a, b)]
  | (a', b') :: rest =>
    if a < a' then (a, b) :: (a', b') :: rest
    else if a = a' then (a, b) :: rest
    else (a', b') :: memSet rest a b

/-- Write bytes at consecutive addresses from `a` up. -/
def memSetAll (m : List Host.Cell) (a : Nat) : List Byte → List Host.Cell
  | [] => m
  | b :: rest => memSetAll (memSet m a b) (a + 1) rest

/-- The bytes at `n` consecutive addresses from `a` up. -/
def memBytes (m : List Host.Cell) (a : Nat) : Nat → List Byte
  | 0 => []
  | n + 1 => memByte m a :: memBytes m (a + 1) n

/-- `MemRead(a, n)`, zero extended to 64 bits (`20_memory.md` R41). -/
def memRead (e : Endian) (m : List Host.Cell) (a n : Nat) : Word := ofBytesLE (hostOrder e (memBytes m a n))

/-- `MemWrite(a, n, v)` of the low `n` bytes of `v` (`20_memory.md` R41). -/
def memWrite (e : Endian) (m : List Host.Cell) (a n : Nat) (v : Word) : List Host.Cell :=
  memSetAll m a (hostOrder e (bytesLE n v))

/-- `MemRead` at a state's address. -/
def State.load (s : State) (a : Word) (size : Size) : Word := memRead s.cfg.hostEndian s.mem a.toNat (sizeBytes size)

/-- `MemWrite` at a state's address. -/
def State.store (s : State) (a : Word) (size : Size) (v : Word) : State :=
  { s with mem := memWrite s.cfg.hostEndian s.mem a.toNat (sizeBytes size) v }

/-! ### Admission and alignment -/

/-- Whether all `n` bytes at `a` lie in a range of addresses. -/
def inRange (base size a n : Nat) : Bool := decide (base ≤ a) && decide (a + n ≤ base + size)

/-- Whether a region admits an access (`20_memory.md` R44; log entry 8). -/
def regionAdmits (g : Region) (kind : AccessKind) (a n : Nat) : Bool := inRange g.base g.size a n && g.permits.contains (kind, n)

/-- Whether an access lies in the stack, the `STACK_SIZE` bytes below `FP_INIT` (`20_memory.md` R45; log entry 9). -/
def inStack (c : Config) (a n : Nat) : Bool :=
  inRange (c.fpInit.toNat - c.stackSize) (min c.stackSize c.fpInit.toNat) a n

/-- `MEM_ADMIT(a, n, kind)` (`20_memory.md` R44): the stack admits every access, the regions what they permit; in either case all `n`
bytes lie there, and none past `2^64 - 1` (R52). -/
def admits (c : Config) (kind : AccessKind) (a n : Nat) : Bool :=
  decide (a + n ≤ 2 ^ 64) && (inStack c a n || c.regions.any fun g => regionAdmits g kind a n)

/-- Whether the alignment rule lets an access go on (`20_memory.md` R43): atomic operations are aligned under either policy. -/
def aligned (c : Config) (kind : AccessKind) (a n : Nat) : Bool :=
  match kind, c.alignPolicy with
  | .read, .any => true
  | .write, .any => true
  | _, _ => a % n == 0

/-- The checks of a data access, alignment before admission (`44_load_store.md` R189, `60_exceptions.md` R248, R249). -/
def access (kind : AccessKind) (size : Size) (a : Word) (s : State) (k : Out) : Out :=
  if aligned s.cfg kind a.toNat (sizeBytes size) then
    if admits s.cfg kind a.toNat (sizeBytes size) then k
    else raise (.memoryFault s.pc a (sizeBytes size) kind)
  else raise (.misalignedAccess s.pc a (sizeBytes size))

end Sys2Proof.Machine
end

