-- ==== Sys2Proof/Machine/Operands.lean ====
section
/-! DEFINITION. The operand forms (`30_encoding.md` R72, R73) and the arithmetic on operands (`41_alu32.md` R134). -/

namespace Sys2Proof.Machine

/-- The source operand: a register (`BPF_X`) or the 32-bit immediate (`BPF_K`) (`30_encoding.md` R66). -/
inductive Operand where
  | reg (r : Reg)
  | imm (v : BitVec 32)
deriving DecidableEq, Repr

/-- The 64-bit source operand, the second read of its instruction: the register, or the immediate sign extended (`30_encoding.md` R72). -/
def operand64 (o : Operand) (s : State) (k : Word → Out) : Out :=
  match o with
  | .reg r => readReg 1 r s k
  | .imm v => k (v.signExtend 64)

/-- The 32-bit source operand, likewise: the low half of the register, or the immediate as it is (`30_encoding.md` R72). -/
def operand32 (o : Operand) (s : State) (k : BitVec 32 → Out) : Out :=
  match o with
  | .reg r => readReg 1 r s fun v => k (v.setWidth 32)
  | .imm v => k v

/-- `x[base] + sext_64(off)` modulo 2^64 (`44_load_store.md` R190, `20_memory.md` R52). -/
def effectiveAddress (base : Word) (off : BitVec 16) : Word := base + off.signExtend 64

/-- The target of a jump at slot `pc`: `pc + 1 + s(off)`, in the integers (`43_jump.md` R151). -/
def jumpTarget (pc : Int) (off : BitVec 16) : Int := pc + 1 + off.toInt

/-- Unsigned division, 0 for a zero divisor (`40_alu64.md` R104, `41_alu32.md` R124). -/
def divOp {w : Nat} (d s : BitVec w) : BitVec w := if s = 0#w then 0#w else d / s

/-- Unsigned remainder, the dividend for a zero divisor (`40_alu64.md` R110, `41_alu32.md` R130). -/
def modOp {w : Nat} (d s : BitVec w) : BitVec w := if s = 0#w then d else d % s

/-- The count of a shift of `w` bits by `s` (`40_alu64.md` R107, `41_alu32.md` R127): under `mask` the count modulo the width; under
`refuse` none for a count not less than the width. -/
def shiftCount {w : Nat} (policy : ShiftPolicy) (s : BitVec w) : Option Nat :=
  match policy with
  | .mask => some (s.toNat % w)
  | .refuse => if s.toNat < w then some s.toNat else none

/-- A shift's result goes to `k`, or the step is `refuse(ShiftCount)` (`60_exceptions.md` R242). -/
def withCount {w : Nat} (s : State) (count : BitVec w) (k : Nat → Out) : Out :=
  match shiftCount s.cfg.shiftPolicy count with
  | some n => k n
  | none => refuse .shiftCount

/-- Shift left, zeros enter (`40_alu64.md` R107). -/
def lshOp {w : Nat} (d : BitVec w) (n : Nat) : BitVec w := d <<< n

/-- Shift right, zeros enter (`40_alu64.md` R108). -/
def rshOp {w : Nat} (d : BitVec w) (n : Nat) : BitVec w := d >>> n

/-- Shift right, copies of the top bit enter (`40_alu64.md` R113). -/
def arshOp {w : Nat} (d : BitVec w) (n : Nat) : BitVec w := d.sshiftRight n

/-- A 32-bit operation of two values on the low halves of words, zero extended (`41_alu32.md` R120, `45_atomic.md` R211). -/
def onLow32 (f : BitVec 32 → BitVec 32 → BitVec 32) (d s : Word) : Word := (f (d.setWidth 32) (s.setWidth 32)).setWidth 64

end Sys2Proof.Machine
end

