-- ==== Sys2Proof/Machine/Alu32.lean ====
section
/-! DEFINITION. The 32-bit arithmetic instructions, class `BPF_ALU` (`41_alu32.md`). -/

namespace Sys2Proof.Machine

/-- `x[dst] <- zext_64(f(D, S))` with `D` the low half of `x[dst]` (`41_alu32.md` R120). Both operands are read before the write. -/
def alu32 (f : BitVec 32 → BitVec 32 → BitVec 32) (dst : Reg) (src : Operand) (s : State) : Out :=
  readReg 0 dst s fun d => operand32 src s fun v => .next (s.finish dst ((f (d.setWidth 32) v).setWidth 64))

/-- `x[dst] <- zext_64(f(D, n))` with the count `n` of the source operand (`41_alu32.md` R127, R128, R133). -/
def shift32 (f : BitVec 32 → Nat → BitVec 32) (dst : Reg) (src : Operand) (s : State) : Out :=
  readReg 0 dst s fun d => operand32 src s fun v => withCount s v fun n =>
    .next (s.finish dst ((f (d.setWidth 32) n).setWidth 64))

/-- `x[dst] <- zext_64(S)`; `dst` is not read (`41_alu32.md` R132). -/
def mov32 (dst : Reg) (src : Operand) (s : State) : Out :=
  operand32 src s fun v => .next (s.finish dst (v.setWidth 64))

/-- `x[dst] <- zext_64(~S)`, `dst` not read, or `x[dst] <- zext_64(0 - D)`, by `NEG_READING` (`41_alu32.md` R129). -/
def neg32 (dst : Reg) (src : Operand) (s : State) : Out :=
  match s.cfg.negReading with
  | .source => operand32 src s fun v => .next (s.finish dst ((~~~v).setWidth 64))
  | .negateDst => readReg 0 dst s fun d => .next (s.finish dst ((0#32 - d.setWidth 32).setWidth 64))

/-- `add32_k`, opcode 0x04 (R121). -/
def execAdd32K (dst : Reg) (imm : BitVec 32) (s : State) : Out :=
  legal (.add32K dst imm) s (alu32 (· + ·) dst (.imm imm) s)

/-- `add32_x`, opcode 0x0c (R121). -/
def execAdd32X (dst src : Reg) (s : State) : Out :=
  legal (.add32X dst src) s (alu32 (· + ·) dst (.reg src) s)

/-- `sub32_k`, opcode 0x14 (R122). -/
def execSub32K (dst : Reg) (imm : BitVec 32) (s : State) : Out :=
  legal (.sub32K dst imm) s (alu32 (· - ·) dst (.imm imm) s)

/-- `sub32_x`, opcode 0x1c (R122). -/
def execSub32X (dst src : Reg) (s : State) : Out :=
  legal (.sub32X dst src) s (alu32 (· - ·) dst (.reg src) s)

/-- `mul32_k`, opcode 0x24 (R123). -/
def execMul32K (dst : Reg) (imm : BitVec 32) (s : State) : Out :=
  legal (.mul32K dst imm) s (alu32 (· * ·) dst (.imm imm) s)

/-- `mul32_x`, opcode 0x2c (R123). -/
def execMul32X (dst src : Reg) (s : State) : Out :=
  legal (.mul32X dst src) s (alu32 (· * ·) dst (.reg src) s)

/-- `div32_k`, opcode 0x34 (R124). -/
def execDiv32K (dst : Reg) (imm : BitVec 32) (s : State) : Out :=
  legal (.div32K dst imm) s (alu32 divOp dst (.imm imm) s)

/-- `div32_x`, opcode 0x3c (R124). -/
def execDiv32X (dst src : Reg) (s : State) : Out :=
  legal (.div32X dst src) s (alu32 divOp dst (.reg src) s)

/-- `or32_k`, opcode 0x44 (R125). -/
def execOr32K (dst : Reg) (imm : BitVec 32) (s : State) : Out :=
  legal (.or32K dst imm) s (alu32 (· ||| ·) dst (.imm imm) s)

/-- `or32_x`, opcode 0x4c (R125). -/
def execOr32X (dst src : Reg) (s : State) : Out :=
  legal (.or32X dst src) s (alu32 (· ||| ·) dst (.reg src) s)

/-- `and32_k`, opcode 0x54 (R126). -/
def execAnd32K (dst : Reg) (imm : BitVec 32) (s : State) : Out :=
  legal (.and32K dst imm) s (alu32 (· &&& ·) dst (.imm imm) s)

/-- `and32_x`, opcode 0x5c (R126). -/
def execAnd32X (dst src : Reg) (s : State) : Out :=
  legal (.and32X dst src) s (alu32 (· &&& ·) dst (.reg src) s)

/-- `lsh32_k`, opcode 0x64 (R127). -/
def execLsh32K (dst : Reg) (imm : BitVec 32) (s : State) : Out :=
  legal (.lsh32K dst imm) s (shift32 lshOp dst (.imm imm) s)

/-- `lsh32_x`, opcode 0x6c (R127). -/
def execLsh32X (dst src : Reg) (s : State) : Out :=
  legal (.lsh32X dst src) s (shift32 lshOp dst (.reg src) s)

/-- `rsh32_k`, opcode 0x74 (R128). -/
def execRsh32K (dst : Reg) (imm : BitVec 32) (s : State) : Out :=
  legal (.rsh32K dst imm) s (shift32 rshOp dst (.imm imm) s)

/-- `rsh32_x`, opcode 0x7c (R128). -/
def execRsh32X (dst src : Reg) (s : State) : Out :=
  legal (.rsh32X dst src) s (shift32 rshOp dst (.reg src) s)

/-- `neg32_k`, opcode 0x84 (R129). -/
def execNeg32K (dst : Reg) (imm : BitVec 32) (s : State) : Out :=
  legal (.neg32K dst imm) s (neg32 dst (.imm imm) s)

/-- `neg32_x`, opcode 0x8c (R129). -/
def execNeg32X (dst src : Reg) (s : State) : Out :=
  legal (.neg32X dst src) s (neg32 dst (.reg src) s)

/-- `mod32_k`, opcode 0x94 (R130). -/
def execMod32K (dst : Reg) (imm : BitVec 32) (s : State) : Out :=
  legal (.mod32K dst imm) s (alu32 modOp dst (.imm imm) s)

/-- `mod32_x`, opcode 0x9c (R130). -/
def execMod32X (dst src : Reg) (s : State) : Out :=
  legal (.mod32X dst src) s (alu32 modOp dst (.reg src) s)

/-- `xor32_k`, opcode 0xa4 (R131). -/
def execXor32K (dst : Reg) (imm : BitVec 32) (s : State) : Out :=
  legal (.xor32K dst imm) s (alu32 (· ^^^ ·) dst (.imm imm) s)

/-- `xor32_x`, opcode 0xac (R131). -/
def execXor32X (dst src : Reg) (s : State) : Out :=
  legal (.xor32X dst src) s (alu32 (· ^^^ ·) dst (.reg src) s)

/-- `mov32_k`, opcode 0xb4 (R132). -/
def execMov32K (dst : Reg) (imm : BitVec 32) (s : State) : Out :=
  legal (.mov32K dst imm) s (mov32 dst (.imm imm) s)

/-- `mov32_x`, opcode 0xbc (R132). -/
def execMov32X (dst src : Reg) (s : State) : Out :=
  legal (.mov32X dst src) s (mov32 dst (.reg src) s)

/-- `arsh32_k`, opcode 0xc4 (R133). -/
def execArsh32K (dst : Reg) (imm : BitVec 32) (s : State) : Out :=
  legal (.arsh32K dst imm) s (shift32 arshOp dst (.imm imm) s)

/-- `arsh32_x`, opcode 0xcc (R133). -/
def execArsh32X (dst src : Reg) (s : State) : Out :=
  legal (.arsh32X dst src) s (shift32 arshOp dst (.reg src) s)

end Sys2Proof.Machine
end

