-- ==== Sys2Proof/Machine/Alu64.lean ====
section
/-! DEFINITION. The 64-bit arithmetic instructions, class `BPF_ALU64` (`40_alu64.md`). -/

namespace Sys2Proof.Machine

/-- `x[dst] <- f(D, S)` with `D = x[dst]` and the source operand `S` (`40_alu64.md` R100). Both are read before the write. -/
def alu64 (f : Word → Word → Word) (dst : Reg) (src : Operand) (s : State) : Out :=
  readReg 0 dst s fun d => operand64 src s fun v => .next (s.finish dst (f d v))

/-- `x[dst] <- f(D, n)` with the count `n` of the source operand (`40_alu64.md` R107, R108, R113). -/
def shift64 (f : Word → Nat → Word) (dst : Reg) (src : Operand) (s : State) : Out :=
  readReg 0 dst s fun d => operand64 src s fun v => withCount s v fun n => .next (s.finish dst (f d n))

/-- `x[dst] <- S`; `dst` is not read (`40_alu64.md` R112). -/
def mov64 (dst : Reg) (src : Operand) (s : State) : Out :=
  operand64 src s fun v => .next (s.finish dst v)

/-- `x[dst] <- ~S`, `dst` not read, or `x[dst] <- 0 - D`, by `NEG_READING` (`40_alu64.md` R109). -/
def neg64 (dst : Reg) (src : Operand) (s : State) : Out :=
  match s.cfg.negReading with
  | .source => operand64 src s fun v => .next (s.finish dst (~~~v))
  | .negateDst => readReg 0 dst s fun d => .next (s.finish dst (0#64 - d))

/-- `add64_k`, opcode 0x07 (R101). -/
def execAdd64K (dst : Reg) (imm : BitVec 32) (s : State) : Out :=
  legal (.add64K dst imm) s (alu64 (· + ·) dst (.imm imm) s)

/-- `add64_x`, opcode 0x0f (R101). -/
def execAdd64X (dst src : Reg) (s : State) : Out :=
  legal (.add64X dst src) s (alu64 (· + ·) dst (.reg src) s)

/-- `sub64_k`, opcode 0x17 (R102). -/
def execSub64K (dst : Reg) (imm : BitVec 32) (s : State) : Out :=
  legal (.sub64K dst imm) s (alu64 (· - ·) dst (.imm imm) s)

/-- `sub64_x`, opcode 0x1f (R102). -/
def execSub64X (dst src : Reg) (s : State) : Out :=
  legal (.sub64X dst src) s (alu64 (· - ·) dst (.reg src) s)

/-- `mul64_k`, opcode 0x27 (R103). -/
def execMul64K (dst : Reg) (imm : BitVec 32) (s : State) : Out :=
  legal (.mul64K dst imm) s (alu64 (· * ·) dst (.imm imm) s)

/-- `mul64_x`, opcode 0x2f (R103). -/
def execMul64X (dst src : Reg) (s : State) : Out :=
  legal (.mul64X dst src) s (alu64 (· * ·) dst (.reg src) s)

/-- `div64_k`, opcode 0x37 (R104). -/
def execDiv64K (dst : Reg) (imm : BitVec 32) (s : State) : Out :=
  legal (.div64K dst imm) s (alu64 divOp dst (.imm imm) s)

/-- `div64_x`, opcode 0x3f (R104). -/
def execDiv64X (dst src : Reg) (s : State) : Out :=
  legal (.div64X dst src) s (alu64 divOp dst (.reg src) s)

/-- `or64_k`, opcode 0x47 (R105). -/
def execOr64K (dst : Reg) (imm : BitVec 32) (s : State) : Out :=
  legal (.or64K dst imm) s (alu64 (· ||| ·) dst (.imm imm) s)

/-- `or64_x`, opcode 0x4f (R105). -/
def execOr64X (dst src : Reg) (s : State) : Out :=
  legal (.or64X dst src) s (alu64 (· ||| ·) dst (.reg src) s)

/-- `and64_k`, opcode 0x57 (R106). -/
def execAnd64K (dst : Reg) (imm : BitVec 32) (s : State) : Out :=
  legal (.and64K dst imm) s (alu64 (· &&& ·) dst (.imm imm) s)

/-- `and64_x`, opcode 0x5f (R106). -/
def execAnd64X (dst src : Reg) (s : State) : Out :=
  legal (.and64X dst src) s (alu64 (· &&& ·) dst (.reg src) s)

/-- `lsh64_k`, opcode 0x67 (R107). -/
def execLsh64K (dst : Reg) (imm : BitVec 32) (s : State) : Out :=
  legal (.lsh64K dst imm) s (shift64 lshOp dst (.imm imm) s)

/-- `lsh64_x`, opcode 0x6f (R107). -/
def execLsh64X (dst src : Reg) (s : State) : Out :=
  legal (.lsh64X dst src) s (shift64 lshOp dst (.reg src) s)

/-- `rsh64_k`, opcode 0x77 (R108). -/
def execRsh64K (dst : Reg) (imm : BitVec 32) (s : State) : Out :=
  legal (.rsh64K dst imm) s (shift64 rshOp dst (.imm imm) s)

/-- `rsh64_x`, opcode 0x7f (R108). -/
def execRsh64X (dst src : Reg) (s : State) : Out :=
  legal (.rsh64X dst src) s (shift64 rshOp dst (.reg src) s)

/-- `neg64_k`, opcode 0x87 (R109). -/
def execNeg64K (dst : Reg) (imm : BitVec 32) (s : State) : Out :=
  legal (.neg64K dst imm) s (neg64 dst (.imm imm) s)

/-- `neg64_x`, opcode 0x8f (R109). -/
def execNeg64X (dst src : Reg) (s : State) : Out :=
  legal (.neg64X dst src) s (neg64 dst (.reg src) s)

/-- `mod64_k`, opcode 0x97 (R110). -/
def execMod64K (dst : Reg) (imm : BitVec 32) (s : State) : Out :=
  legal (.mod64K dst imm) s (alu64 modOp dst (.imm imm) s)

/-- `mod64_x`, opcode 0x9f (R110). -/
def execMod64X (dst src : Reg) (s : State) : Out :=
  legal (.mod64X dst src) s (alu64 modOp dst (.reg src) s)

/-- `xor64_k`, opcode 0xa7 (R111). -/
def execXor64K (dst : Reg) (imm : BitVec 32) (s : State) : Out :=
  legal (.xor64K dst imm) s (alu64 (· ^^^ ·) dst (.imm imm) s)

/-- `xor64_x`, opcode 0xaf (R111). -/
def execXor64X (dst src : Reg) (s : State) : Out :=
  legal (.xor64X dst src) s (alu64 (· ^^^ ·) dst (.reg src) s)

/-- `mov64_k`, opcode 0xb7 (R112). -/
def execMov64K (dst : Reg) (imm : BitVec 32) (s : State) : Out :=
  legal (.mov64K dst imm) s (mov64 dst (.imm imm) s)

/-- `mov64_x`, opcode 0xbf (R112). -/
def execMov64X (dst src : Reg) (s : State) : Out :=
  legal (.mov64X dst src) s (mov64 dst (.reg src) s)

/-- `arsh64_k`, opcode 0xc7 (R113). -/
def execArsh64K (dst : Reg) (imm : BitVec 32) (s : State) : Out :=
  legal (.arsh64K dst imm) s (shift64 arshOp dst (.imm imm) s)

/-- `arsh64_x`, opcode 0xcf (R113). -/
def execArsh64X (dst src : Reg) (s : State) : Out :=
  legal (.arsh64X dst src) s (shift64 arshOp dst (.reg src) s)

end Sys2Proof.Machine
end

