-- ==== Sys2Proof/Machine/Atomic.lean ====
section
/-! DEFINITION. The atomic operations, mode `BPF_ATOMIC` (`45_atomic.md`). Each is one step, so indivisible (`20_memory.md` R47). -/

namespace Sys2Proof.Machine

/-- A read-modify-write (`45_atomic.md` R210, R211): the old value of memory and the register give the new value of memory; with
`fetch` the register then receives the old value, zero extended. -/
def atomicRmw (size : Size) (f : Word → Word → Word) (fetch : Bool) (dst src : Reg) (off : BitVec 16) (s : State) : Out :=
  readReg 0 dst s fun base => readReg 1 src s fun v =>
    let a := effectiveAddress base off
    access .atomic size a s (
      let old := s.load a size
      let t := s.store a size (f old v)
      .next ((if fetch then t.setReg src old else t).advance 1))

/-- Compare and exchange (`45_atomic.md` R223, R224): memory is replaced by the register if it equals R0 at the width of the operation;
in either case R0 receives the old value, zero extended. `src` is only read. -/
def atomicCmpxchg (size : Size) (dst src : Reg) (off : BitVec 16) (s : State) : Out :=
  readReg 0 dst s fun base => readReg 1 src s fun v => readReg 2 .r0 s fun expected =>
    let a := effectiveAddress base off
    access .atomic size a s (
      let old := s.load a size
      .next (((if old = lowBits size expected then s.store a size v else s).setReg .r0 old).advance 1))

/-- The new value of an exchange: the register. -/
def xchgOp (_old v : Word) : Word := v

/-- `atomic_add32`, opcode 0xc3, `imm` 0x0 (R213). -/
def execAtomicAdd32 (dst src : Reg) (off : BitVec 16) (s : State) : Out :=
  legal (.atomicAdd32 dst src off) s (atomicRmw .w (onLow32 (· + ·)) false dst src off s)

/-- `atomic_add64`, opcode 0xdb, `imm` 0x0 (R213). -/
def execAtomicAdd64 (dst src : Reg) (off : BitVec 16) (s : State) : Out :=
  legal (.atomicAdd64 dst src off) s (atomicRmw .dw (· + ·) false dst src off s)

/-- `atomic_fetch_add32`, opcode 0xc3, `imm` 0x1 (R214). -/
def execAtomicFetchAdd32 (dst src : Reg) (off : BitVec 16) (s : State) : Out :=
  legal (.atomicFetchAdd32 dst src off) s (atomicRmw .w (onLow32 (· + ·)) true dst src off s)

/-- `atomic_fetch_add64`, opcode 0xdb, `imm` 0x1 (R214). -/
def execAtomicFetchAdd64 (dst src : Reg) (off : BitVec 16) (s : State) : Out :=
  legal (.atomicFetchAdd64 dst src off) s (atomicRmw .dw (· + ·) true dst src off s)

/-- `atomic_or32`, opcode 0xc3, `imm` 0x40 (R215). -/
def execAtomicOr32 (dst src : Reg) (off : BitVec 16) (s : State) : Out :=
  legal (.atomicOr32 dst src off) s (atomicRmw .w (onLow32 (· ||| ·)) false dst src off s)

/-- `atomic_or64`, opcode 0xdb, `imm` 0x40 (R215). -/
def execAtomicOr64 (dst src : Reg) (off : BitVec 16) (s : State) : Out :=
  legal (.atomicOr64 dst src off) s (atomicRmw .dw (· ||| ·) false dst src off s)

/-- `atomic_fetch_or32`, opcode 0xc3, `imm` 0x41 (R216). -/
def execAtomicFetchOr32 (dst src : Reg) (off : BitVec 16) (s : State) : Out :=
  legal (.atomicFetchOr32 dst src off) s (atomicRmw .w (onLow32 (· ||| ·)) true dst src off s)

/-- `atomic_fetch_or64`, opcode 0xdb, `imm` 0x41 (R216). -/
def execAtomicFetchOr64 (dst src : Reg) (off : BitVec 16) (s : State) : Out :=
  legal (.atomicFetchOr64 dst src off) s (atomicRmw .dw (· ||| ·) true dst src off s)

/-- `atomic_and32`, opcode 0xc3, `imm` 0x50 (R217). -/
def execAtomicAnd32 (dst src : Reg) (off : BitVec 16) (s : State) : Out :=
  legal (.atomicAnd32 dst src off) s (atomicRmw .w (onLow32 (· &&& ·)) false dst src off s)

/-- `atomic_and64`, opcode 0xdb, `imm` 0x50 (R217). -/
def execAtomicAnd64 (dst src : Reg) (off : BitVec 16) (s : State) : Out :=
  legal (.atomicAnd64 dst src off) s (atomicRmw .dw (· &&& ·) false dst src off s)

/-- `atomic_fetch_and32`, opcode 0xc3, `imm` 0x51 (R218). -/
def execAtomicFetchAnd32 (dst src : Reg) (off : BitVec 16) (s : State) : Out :=
  legal (.atomicFetchAnd32 dst src off) s (atomicRmw .w (onLow32 (· &&& ·)) true dst src off s)

/-- `atomic_fetch_and64`, opcode 0xdb, `imm` 0x51 (R218). -/
def execAtomicFetchAnd64 (dst src : Reg) (off : BitVec 16) (s : State) : Out :=
  legal (.atomicFetchAnd64 dst src off) s (atomicRmw .dw (· &&& ·) true dst src off s)

/-- `atomic_xor32`, opcode 0xc3, `imm` 0xa0 (R219). -/
def execAtomicXor32 (dst src : Reg) (off : BitVec 16) (s : State) : Out :=
  legal (.atomicXor32 dst src off) s (atomicRmw .w (onLow32 (· ^^^ ·)) false dst src off s)

/-- `atomic_xor64`, opcode 0xdb, `imm` 0xa0 (R219). -/
def execAtomicXor64 (dst src : Reg) (off : BitVec 16) (s : State) : Out :=
  legal (.atomicXor64 dst src off) s (atomicRmw .dw (· ^^^ ·) false dst src off s)

/-- `atomic_fetch_xor32`, opcode 0xc3, `imm` 0xa1 (R220). -/
def execAtomicFetchXor32 (dst src : Reg) (off : BitVec 16) (s : State) : Out :=
  legal (.atomicFetchXor32 dst src off) s (atomicRmw .w (onLow32 (· ^^^ ·)) true dst src off s)

/-- `atomic_fetch_xor64`, opcode 0xdb, `imm` 0xa1 (R220). -/
def execAtomicFetchXor64 (dst src : Reg) (off : BitVec 16) (s : State) : Out :=
  legal (.atomicFetchXor64 dst src off) s (atomicRmw .dw (· ^^^ ·) true dst src off s)

/-- `atomic_xchg32`, opcode 0xc3, `imm` 0xe1 (R221). -/
def execAtomicXchg32 (dst src : Reg) (off : BitVec 16) (s : State) : Out :=
  legal (.atomicXchg32 dst src off) s (atomicRmw .w xchgOp true dst src off s)

/-- `atomic_xchg64`, opcode 0xdb, `imm` 0xe1 (R222). -/
def execAtomicXchg64 (dst src : Reg) (off : BitVec 16) (s : State) : Out :=
  legal (.atomicXchg64 dst src off) s (atomicRmw .dw xchgOp true dst src off s)

/-- `atomic_cmpxchg32`, opcode 0xc3, `imm` 0xf1 (R223). -/
def execAtomicCmpxchg32 (dst src : Reg) (off : BitVec 16) (s : State) : Out :=
  legal (.atomicCmpxchg32 dst src off) s (atomicCmpxchg .w dst src off s)

/-- `atomic_cmpxchg64`, opcode 0xdb, `imm` 0xf1 (R224). -/
def execAtomicCmpxchg64 (dst src : Reg) (off : BitVec 16) (s : State) : Out :=
  legal (.atomicCmpxchg64 dst src off) s (atomicCmpxchg .dw dst src off s)

end Sys2Proof.Machine
end

