-- ==== Sys2Proof/Machine/ByteSwap.lean ====
section
/-! DEFINITION. The byte swap instructions (`42_byteswap.md`). -/

namespace Sys2Proof.Machine

/-- The low bits of a value converted between the host's order and the order `target`: as they are where the two agree, the bytes
reversed otherwise; bits above the width become zero (`42_byteswap.md` R140). -/
def convertBytes (host target : Endian) (size : Size) (v : Word) : Word :=
  if host = target then lowBits size v else swapBytes (sizeBytes size) v

/-- `x[dst]` converted at a width (`42_byteswap.md` R140). -/
def byteSwap (target : Endian) (size : Size) (dst : Reg) (s : State) : Out :=
  readReg 0 dst s fun v => .next (s.finish dst (convertBytes s.cfg.hostEndian target size v))

/-- `le16`, opcode 0xd4, `imm` 0x10 (R141). -/
def execLe16 (dst : Reg) (s : State) : Out :=
  legal (.le16 dst) s (byteSwap .little .h dst s)

/-- `le32`, opcode 0xd4, `imm` 0x20 (R142). -/
def execLe32 (dst : Reg) (s : State) : Out :=
  legal (.le32 dst) s (byteSwap .little .w dst s)

/-- `le64`, opcode 0xd4, `imm` 0x40 (R143). -/
def execLe64 (dst : Reg) (s : State) : Out :=
  legal (.le64 dst) s (byteSwap .little .dw dst s)

/-- `be16`, opcode 0xdc, `imm` 0x10 (R144). -/
def execBe16 (dst : Reg) (s : State) : Out :=
  legal (.be16 dst) s (byteSwap .big .h dst s)

/-- `be32`, opcode 0xdc, `imm` 0x20 (R145). -/
def execBe32 (dst : Reg) (s : State) : Out :=
  legal (.be32 dst) s (byteSwap .big .w dst s)

/-- `be64`, opcode 0xdc, `imm` 0x40 (R146). -/
def execBe64 (dst : Reg) (s : State) : Out :=
  legal (.be64 dst) s (byteSwap .big .dw dst s)

end Sys2Proof.Machine
end

