-- ==== Sys2Proof/Machine/CallExit.lean ====
section
/-! DEFINITION. `BPF_CALL` and `BPF_EXIT` (`43_jump.md` section 5). -/

namespace Sys2Proof.Machine

/-- The entry of `CALL_TABLE` for an `imm`: the first with that key (`43_jump.md` R175). -/
def findFn (imm : BitVec 32) : List PlatformFn → Option PlatformFn
  | [] => none
  | f :: rest => if f.key = imm then some f else findFn imm rest

/-- The argument registers of a function, R1 upward (`43_jump.md` R175). -/
def argRegs (f : PlatformFn) : List Reg := [Reg.r1, .r2, .r3, .r4, .r5].take f.arity.val

/-- Whether a called function may access data memory (`43_jump.md` R175): `MEM_ADMIT` admits the access, or an atomic one there (log
entry 12). -/
def fnMay (c : Config) (kind : AccessKind) (a n : Nat) : Bool := admits c kind a n || admits c .atomic a n

/-- 1 or 0. -/
def wordOfBool : Bool → Word
  | true => 1#64
  | false => 0#64

/-- An operation of a `FnExpr`. -/
def applyFnOp (o : FnOp) (a b : Word) : Word :=
  match o with
  | .add => a + b
  | .sub => a - b
  | .mul => a * b
  | .div => divOp a b
  | .mod => modOp a b
  | .and => a &&& b
  | .or => a ||| b
  | .xor => a ^^^ b
  | .shl => lshOp a (b.toNat % 64)
  | .shr => rshOp a (b.toNat % 64)
  | .sar => arshOp a (b.toNat % 64)
  | .eq => wordOfBool (a == b)
  | .ult => wordOfBool (a.ult b)
  | .slt => wordOfBool (a.slt b)

/-- The value of an expression in a call. An argument past the arity and memory that the function may not read are any value (log
entries 11 and 12). -/
def evalFn (c : Config) (site : CallSite) : FnExpr → Word
  | .const v => v
  | .arg i => (site.args[i.val]?).getD (Config.callDraw site (.arg i))
  | .mem addr size =>
    let a := (evalFn c site addr).toNat
    if fnMay c .read a (sizeBytes size) then memRead c.hostEndian site.mem a (sizeBytes size)
    else Config.callDraw site (.mem addr size)
  | .any k => Config.callDraw site (.any k)
  | .op o a b => applyFnOp o (evalFn c site a) (evalFn c site b)

/-- What a called function has done: the value it returns, if it returns one, and its stores in order (`43_jump.md` R175). -/
structure CallOutcome where
  ret : Option Word
  stores : List (Word × Size × Word)
deriving DecidableEq, Repr

/-- An alternative in a call. -/
def evalOutcome (c : Config) (site : CallSite) (o : FnOutcome) : CallOutcome where
  ret := o.ret.map (evalFn c site)
  stores := o.stores.map fun w => (evalFn c site w.addr, w.size, evalFn c site w.value)

/-- The outcomes that a function admits for its arguments and memory (`43_jump.md` R175): those of the alternatives that apply. -/
def admittedOutcomes (c : Config) (site : CallSite) (f : PlatformFn) : List CallOutcome :=
  (f.outcomes.filter fun o => evalFn c site o.guard != 0#64).map (evalOutcome c site)

/-- The entry of a list at a place, the last one for a place past its end. -/
def pick {α : Type} (l : List α) (n : Nat) : Option α :=
  match l, n with
  | [], _ => none
  | [a], _ => some a
  | a :: _ :: _, 0 => some a
  | _ :: b :: rest, n + 1 => pick (b :: rest) n

/-- The outcome of a call: any one that the function admits; where it names none, any at all (`43_jump.md` R175; log entry 11). -/
def callOutcome (c : Config) (site : CallSite) (f : PlatformFn) : CallOutcome :=
  match pick (admittedOutcomes c site f) (Config.callChoice site) with
  | some o => o
  | none => { ret := Config.callResult site, stores := Config.callStores site }

/-- Data memory after the stores of a called function, of which those that it may do take place (`43_jump.md` R175; log entry 12). -/
def callMemory (c : Config) (m : List Host.Cell) : List (Word × Size × Word) → List Host.Cell
  | [] => m
  | (a, size, v) :: rest =>
    callMemory c (if fnMay c .write a.toNat (sizeBytes size) then memWrite c.hostEndian m a.toNat (sizeBytes size) v else m) rest

/-- R0 receives the value, or becomes unwritten where there is none (`43_jump.md` R175). -/
def State.setResult (s : State) (ret : Option Word) : State :=
  match ret with
  | some v => s.setReg .r0 v
  | none => s.clearReg .r0

/-- R1 to R5 become unwritten (`43_jump.md` R175, `10_state.md` R33). -/
def State.clearScratch (s : State) : State :=
  ((((s.clearReg .r1).clearReg .r2).clearReg .r3).clearReg .r4).clearReg .r5

/-- The call of a function at a state. -/
def State.callSite (s : State) (f : PlatformFn) (args : List Word) : CallSite where
  key := f.key
  args := args
  mem := s.mem
  steps := s.steps

/-- The state after a called function has returned with an outcome: R0 holds its result or is unwritten, R1 to R5 are unwritten, R6 to
R10 are kept (`43_jump.md` R175). -/
def State.afterCall (s : State) (o : CallOutcome) : State :=
  (({ s with mem := callMemory s.cfg s.mem o.stores }.setResult o.ret).clearScratch).advance 1

/-- The run has ended normally with an exit value (`43_jump.md` R176); `pc` stays (`10_state.md` R25; log entry 14). -/
def State.exited (s : State) (v : Word) : State := { s with status := .exited v, steps := s.steps + 1 }

/-- `call`, opcode 0x85 (R175): an unknown function is refused before any register is read (`60_exceptions.md` R252). -/
def execCall (imm : BitVec 32) (s : State) : Out :=
  legal (.call imm) s (
    match findFn imm s.cfg.callTable with
    | none => refuse (.unknownCall imm)
    | some f => readRegs (argRegs f) s fun args => .next (s.afterCall (callOutcome s.cfg (s.callSite f args) f)))

/-- `exit`, opcode 0x95 (R176). -/
def execExit (s : State) : Out :=
  legal .exit s (readReg 0 .r0 s fun v => .next (s.exited v))

end Sys2Proof.Machine
end

