-- ==== Sys2Proof/Machine/Imm64.lean ====
section
/-! DEFINITION. The 64-bit immediate load (`46_imm64.md`) and the legacy packet loads (`47_legacy_packet.md`). -/

namespace Sys2Proof.Machine

/-- `ld_imm64`, opcode 0x18 (R230): two slots; it reads no register and no memory. -/
def execLdImm64 (dst : Reg) (imm64 : Word) (s : State) : Out :=
  legal (.ldImm64 dst imm64) s (.next ((s.setReg dst imm64).advance 2))

/-- The legacy packet loads have no meaning in the spec (`47_legacy_packet.md` R235, R236): the step is refused. -/
def legacyLoad (_size : Size) (_rest : BitVec 56) (_s : State) : Out := refuse .legacyPacketAccess

/-- `ld_abs`, opcode 0x20 (R235). -/
def execLdAbs (size : Size) (rest : BitVec 56) (s : State) : Out :=
  legacyLoad size rest s

/-- `ld_ind`, opcode 0x40 (R235). -/
def execLdInd (size : Size) (rest : BitVec 56) (s : State) : Out :=
  legacyLoad size rest s

end Sys2Proof.Machine
end

