-- ==== Sys2Proof/Machine/Flags.lean ====
section
/-! DEFINITION. The machine has no flags (`10_state.md` R26): a conditional jump compares its two operands itself. Here are the eleven
comparisons (`30_encoding.md` R68). -/

namespace Sys2Proof.Machine

/-- The eleven conditions (`30_encoding.md` R68). -/
inductive Cond where
  | eq | gt | ge | set | ne | sgt | sge | lt | le | slt | sle
deriving DecidableEq, Repr

/-- Whether a condition holds of the left operand `d` and the right operand `s` (`43_jump.md` R153 to R163 at 64 bits, R164 to R174
at 32): unsigned unless the name says signed. -/
def condHolds {w : Nat} (c : Cond) (d s : BitVec w) : Bool :=
  match c with
  | .eq => d == s
  | .gt => s.ult d
  | .ge => s.ule d
  | .set => d &&& s != 0#w
  | .ne => d != s
  | .sgt => s.slt d
  | .sge => s.sle d
  | .lt => d.ult s
  | .le => d.ule s
  | .slt => d.slt s
  | .sle => d.sle s

end Sys2Proof.Machine
end

