-- ==== Sys2Proof/Machine/Jump.lean ====
section
/-! DEFINITION. The jump instructions, classes `BPF_JMP` and `BPF_JMP32`, with call and exit in `CallExit.lean` (`43_jump.md`). -/

namespace Sys2Proof.Machine

/-- A jump that is taken or not (`43_jump.md` R151). A target outside the program faults at the fetch there, not here. -/
def State.branch (s : State) (taken : Bool) (off : BitVec 16) : State :=
  { s with pc := if taken then jumpTarget s.pc off else s.pc + 1, steps := s.steps + 1 }

/-- A conditional jump on 64-bit operands (`43_jump.md` R150). -/
def jump64 (c : Cond) (dst : Reg) (src : Operand) (off : BitVec 16) (s : State) : Out :=
  readReg 0 dst s fun d => operand64 src s fun v => .next (s.branch (condHolds c d v) off)

/-- A conditional jump on 32-bit operands (`43_jump.md` R150). -/
def jump32 (c : Cond) (dst : Reg) (src : Operand) (off : BitVec 16) (s : State) : Out :=
  readReg 0 dst s fun d => operand32 src s fun v => .next (s.branch (condHolds c (d.setWidth 32) v) off)

/-- `ja`, opcode 0x05 (R152). -/
def execJa (off : BitVec 16) (s : State) : Out :=
  legal (.ja off) s (.next (s.branch true off))

/-- `jeq_k`, opcode 0x15 (R153). -/
def execJeqK (dst : Reg) (imm : BitVec 32) (off : BitVec 16) (s : State) : Out :=
  legal (.jeqK dst imm off) s (jump64 .eq dst (.imm imm) off s)

/-- `jeq_x`, opcode 0x1d (R153). -/
def execJeqX (dst src : Reg) (off : BitVec 16) (s : State) : Out :=
  legal (.jeqX dst src off) s (jump64 .eq dst (.reg src) off s)

/-- `jgt_k`, opcode 0x25 (R154). -/
def execJgtK (dst : Reg) (imm : BitVec 32) (off : BitVec 16) (s : State) : Out :=
  legal (.jgtK dst imm off) s (jump64 .gt dst (.imm imm) off s)

/-- `jgt_x`, opcode 0x2d (R154). -/
def execJgtX (dst src : Reg) (off : BitVec 16) (s : State) : Out :=
  legal (.jgtX dst src off) s (jump64 .gt dst (.reg src) off s)

/-- `jge_k`, opcode 0x35 (R155). -/
def execJgeK (dst : Reg) (imm : BitVec 32) (off : BitVec 16) (s : State) : Out :=
  legal (.jgeK dst imm off) s (jump64 .ge dst (.imm imm) off s)

/-- `jge_x`, opcode 0x3d (R155). -/
def execJgeX (dst src : Reg) (off : BitVec 16) (s : State) : Out :=
  legal (.jgeX dst src off) s (jump64 .ge dst (.reg src) off s)

/-- `jset_k`, opcode 0x45 (R156). -/
def execJsetK (dst : Reg) (imm : BitVec 32) (off : BitVec 16) (s : State) : Out :=
  legal (.jsetK dst imm off) s (jump64 .set dst (.imm imm) off s)

/-- `jset_x`, opcode 0x4d (R156). -/
def execJsetX (dst src : Reg) (off : BitVec 16) (s : State) : Out :=
  legal (.jsetX dst src off) s (jump64 .set dst (.reg src) off s)

/-- `jne_k`, opcode 0x55 (R157). -/
def execJneK (dst : Reg) (imm : BitVec 32) (off : BitVec 16) (s : State) : Out :=
  legal (.jneK dst imm off) s (jump64 .ne dst (.imm imm) off s)

/-- `jne_x`, opcode 0x5d (R157). -/
def execJneX (dst src : Reg) (off : BitVec 16) (s : State) : Out :=
  legal (.jneX dst src off) s (jump64 .ne dst (.reg src) off s)

/-- `jsgt_k`, opcode 0x65 (R158). -/
def execJsgtK (dst : Reg) (imm : BitVec 32) (off : BitVec 16) (s : State) : Out :=
  legal (.jsgtK dst imm off) s (jump64 .sgt dst (.imm imm) off s)

/-- `jsgt_x`, opcode 0x6d (R158). -/
def execJsgtX (dst src : Reg) (off : BitVec 16) (s : State) : Out :=
  legal (.jsgtX dst src off) s (jump64 .sgt dst (.reg src) off s)

/-- `jsge_k`, opcode 0x75 (R159). -/
def execJsgeK (dst : Reg) (imm : BitVec 32) (off : BitVec 16) (s : State) : Out :=
  legal (.jsgeK dst imm off) s (jump64 .sge dst (.imm imm) off s)

/-- `jsge_x`, opcode 0x7d (R159). -/
def execJsgeX (dst src : Reg) (off : BitVec 16) (s : State) : Out :=
  legal (.jsgeX dst src off) s (jump64 .sge dst (.reg src) off s)

/-- `jlt_k`, opcode 0xa5 (R160). -/
def execJltK (dst : Reg) (imm : BitVec 32) (off : BitVec 16) (s : State) : Out :=
  legal (.jltK dst imm off) s (jump64 .lt dst (.imm imm) off s)

/-- `jlt_x`, opcode 0xad (R160). -/
def execJltX (dst src : Reg) (off : BitVec 16) (s : State) : Out :=
  legal (.jltX dst src off) s (jump64 .lt dst (.reg src) off s)

/-- `jle_k`, opcode 0xb5 (R161). -/
def execJleK (dst : Reg) (imm : BitVec 32) (off : BitVec 16) (s : State) : Out :=
  legal (.jleK dst imm off) s (jump64 .le dst (.imm imm) off s)

/-- `jle_x`, opcode 0xbd (R161). -/
def execJleX (dst src : Reg) (off : BitVec 16) (s : State) : Out :=
  legal (.jleX dst src off) s (jump64 .le dst (.reg src) off s)

/-- `jslt_k`, opcode 0xc5 (R162). -/
def execJsltK (dst : Reg) (imm : BitVec 32) (off : BitVec 16) (s : State) : Out :=
  legal (.jsltK dst imm off) s (jump64 .slt dst (.imm imm) off s)

/-- `jslt_x`, opcode 0xcd (R162). -/
def execJsltX (dst src : Reg) (off : BitVec 16) (s : State) : Out :=
  legal (.jsltX dst src off) s (jump64 .slt dst (.reg src) off s)

/-- `jsle_k`, opcode 0xd5 (R163). -/
def execJsleK (dst : Reg) (imm : BitVec 32) (off : BitVec 16) (s : State) : Out :=
  legal (.jsleK dst imm off) s (jump64 .sle dst (.imm imm) off s)

/-- `jsle_x`, opcode 0xdd (R163). -/
def execJsleX (dst src : Reg) (off : BitVec 16) (s : State) : Out :=
  legal (.jsleX dst src off) s (jump64 .sle dst (.reg src) off s)

/-- `jeq32_k`, opcode 0x16 (R164). -/
def execJeq32K (dst : Reg) (imm : BitVec 32) (off : BitVec 16) (s : State) : Out :=
  legal (.jeq32K dst imm off) s (jump32 .eq dst (.imm imm) off s)

/-- `jeq32_x`, opcode 0x1e (R164). -/
def execJeq32X (dst src : Reg) (off : BitVec 16) (s : State) : Out :=
  legal (.jeq32X dst src off) s (jump32 .eq dst (.reg src) off s)

/-- `jgt32_k`, opcode 0x26 (R165). -/
def execJgt32K (dst : Reg) (imm : BitVec 32) (off : BitVec 16) (s : State) : Out :=
  legal (.jgt32K dst imm off) s (jump32 .gt dst (.imm imm) off s)

/-- `jgt32_x`, opcode 0x2e (R165). -/
def execJgt32X (dst src : Reg) (off : BitVec 16) (s : State) : Out :=
  legal (.jgt32X dst src off) s (jump32 .gt dst (.reg src) off s)

/-- `jge32_k`, opcode 0x36 (R166). -/
def execJge32K (dst : Reg) (imm : BitVec 32) (off : BitVec 16) (s : State) : Out :=
  legal (.jge32K dst imm off) s (jump32 .ge dst (.imm imm) off s)

/-- `jge32_x`, opcode 0x3e (R166). -/
def execJge32X (dst src : Reg) (off : BitVec 16) (s : State) : Out :=
  legal (.jge32X dst src off) s (jump32 .ge dst (.reg src) off s)

/-- `jset32_k`, opcode 0x46 (R167). -/
def execJset32K (dst : Reg) (imm : BitVec 32) (off : BitVec 16) (s : State) : Out :=
  legal (.jset32K dst imm off) s (jump32 .set dst (.imm imm) off s)

/-- `jset32_x`, opcode 0x4e (R167). -/
def execJset32X (dst src : Reg) (off : BitVec 16) (s : State) : Out :=
  legal (.jset32X dst src off) s (jump32 .set dst (.reg src) off s)

/-- `jne32_k`, opcode 0x56 (R168). -/
def execJne32K (dst : Reg) (imm : BitVec 32) (off : BitVec 16) (s : State) : Out :=
  legal (.jne32K dst imm off) s (jump32 .ne dst (.imm imm) off s)

/-- `jne32_x`, opcode 0x5e (R168). -/
def execJne32X (dst src : Reg) (off : BitVec 16) (s : State) : Out :=
  legal (.jne32X dst src off) s (jump32 .ne dst (.reg src) off s)

/-- `jsgt32_k`, opcode 0x66 (R169). -/
def execJsgt32K (dst : Reg) (imm : BitVec 32) (off : BitVec 16) (s : State) : Out :=
  legal (.jsgt32K dst imm off) s (jump32 .sgt dst (.imm imm) off s)

/-- `jsgt32_x`, opcode 0x6e (R169). -/
def execJsgt32X (dst src : Reg) (off : BitVec 16) (s : State) : Out :=
  legal (.jsgt32X dst src off) s (jump32 .sgt dst (.reg src) off s)

/-- `jsge32_k`, opcode 0x76 (R170). -/
def execJsge32K (dst : Reg) (imm : BitVec 32) (off : BitVec 16) (s : State) : Out :=
  legal (.jsge32K dst imm off) s (jump32 .sge dst (.imm imm) off s)

/-- `jsge32_x`, opcode 0x7e (R170). -/
def execJsge32X (dst src : Reg) (off : BitVec 16) (s : State) : Out :=
  legal (.jsge32X dst src off) s (jump32 .sge dst (.reg src) off s)

/-- `jlt32_k`, opcode 0xa6 (R171). -/
def execJlt32K (dst : Reg) (imm : BitVec 32) (off : BitVec 16) (s : State) : Out :=
  legal (.jlt32K dst imm off) s (jump32 .lt dst (.imm imm) off s)

/-- `jlt32_x`, opcode 0xae (R171). -/
def execJlt32X (dst src : Reg) (off : BitVec 16) (s : State) : Out :=
  legal (.jlt32X dst src off) s (jump32 .lt dst (.reg src) off s)

/-- `jle32_k`, opcode 0xb6 (R172). -/
def execJle32K (dst : Reg) (imm : BitVec 32) (off : BitVec 16) (s : State) : Out :=
  legal (.jle32K dst imm off) s (jump32 .le dst (.imm imm) off s)

/-- `jle32_x`, opcode 0xbe (R172). -/
def execJle32X (dst src : Reg) (off : BitVec 16) (s : State) : Out :=
  legal (.jle32X dst src off) s (jump32 .le dst (.reg src) off s)

/-- `jslt32_k`, opcode 0xc6 (R173). -/
def execJslt32K (dst : Reg) (imm : BitVec 32) (off : BitVec 16) (s : State) : Out :=
  legal (.jslt32K dst imm off) s (jump32 .slt dst (.imm imm) off s)

/-- `jslt32_x`, opcode 0xce (R173). -/
def execJslt32X (dst src : Reg) (off : BitVec 16) (s : State) : Out :=
  legal (.jslt32X dst src off) s (jump32 .slt dst (.reg src) off s)

/-- `jsle32_k`, opcode 0xd6 (R174). -/
def execJsle32K (dst : Reg) (imm : BitVec 32) (off : BitVec 16) (s : State) : Out :=
  legal (.jsle32K dst imm off) s (jump32 .sle dst (.imm imm) off s)

/-- `jsle32_x`, opcode 0xde (R174). -/
def execJsle32X (dst src : Reg) (off : BitVec 16) (s : State) : Out :=
  legal (.jsle32X dst src off) s (jump32 .sle dst (.reg src) off s)

end Sys2Proof.Machine
end

