-- ==== Sys2Proof/Machine/LoadStore.lean ====
section
/-! DEFINITION. The regular loads and stores, mode `BPF_MEM` (`44_load_store.md`). -/

namespace Sys2Proof.Machine

/-- A load, zero extended (`44_load_store.md` R189, R199): the base is read, the access checked, then the register written. -/
def loadReg (size : Size) (dst src : Reg) (off : BitVec 16) (s : State) : Out :=
  readReg 0 src s fun base =>
    access .read size (effectiveAddress base off) s (.next (s.finish dst (s.load (effectiveAddress base off) size)))

/-- A store of the low bits of a value (`44_load_store.md` R189, R191). -/
def storeValue (size : Size) (base : Word) (off : BitVec 16) (v : Word) (s : State) : Out :=
  access .write size (effectiveAddress base off) s (.next ((s.store (effectiveAddress base off) size v).advance 1))

/-- A store of a register: the base is read first, then the data (`44_load_store.md` R189). -/
def storeReg (size : Size) (dst src : Reg) (off : BitVec 16) (s : State) : Out :=
  readReg 0 dst s fun base => readReg 1 src s fun v => storeValue size base off v s

/-- A store of the immediate, sign extended and cut to the size (`44_load_store.md` R195 to R198). -/
def storeImm (size : Size) (dst : Reg) (off : BitVec 16) (imm : BitVec 32) (s : State) : Out :=
  readReg 0 dst s fun base => storeValue size base off (imm.signExtend 64) s

/-- `stxw`, opcode 0x63 (R191). -/
def execStxw (dst src : Reg) (off : BitVec 16) (s : State) : Out :=
  legal (.stxw dst src off) s (storeReg .w dst src off s)

/-- `stxh`, opcode 0x6b (R192). -/
def execStxh (dst src : Reg) (off : BitVec 16) (s : State) : Out :=
  legal (.stxh dst src off) s (storeReg .h dst src off s)

/-- `stxb`, opcode 0x73 (R193). -/
def execStxb (dst src : Reg) (off : BitVec 16) (s : State) : Out :=
  legal (.stxb dst src off) s (storeReg .b dst src off s)

/-- `stxdw`, opcode 0x7b (R194). -/
def execStxdw (dst src : Reg) (off : BitVec 16) (s : State) : Out :=
  legal (.stxdw dst src off) s (storeReg .dw dst src off s)

/-- `stw`, opcode 0x62 (R195). -/
def execStw (dst : Reg) (off : BitVec 16) (imm : BitVec 32) (s : State) : Out :=
  legal (.stw dst off imm) s (storeImm .w dst off imm s)

/-- `sth`, opcode 0x6a (R196). -/
def execSth (dst : Reg) (off : BitVec 16) (imm : BitVec 32) (s : State) : Out :=
  legal (.sth dst off imm) s (storeImm .h dst off imm s)

/-- `stb`, opcode 0x72 (R197). -/
def execStb (dst : Reg) (off : BitVec 16) (imm : BitVec 32) (s : State) : Out :=
  legal (.stb dst off imm) s (storeImm .b dst off imm s)

/-- `stdw`, opcode 0x7a (R198). -/
def execStdw (dst : Reg) (off : BitVec 16) (imm : BitVec 32) (s : State) : Out :=
  legal (.stdw dst off imm) s (storeImm .dw dst off imm s)

/-- `ldxw`, opcode 0x61 (R199). -/
def execLdxw (dst src : Reg) (off : BitVec 16) (s : State) : Out :=
  legal (.ldxw dst src off) s (loadReg .w dst src off s)

/-- `ldxh`, opcode 0x69 (R200). -/
def execLdxh (dst src : Reg) (off : BitVec 16) (s : State) : Out :=
  legal (.ldxh dst src off) s (loadReg .h dst src off s)

/-- `ldxb`, opcode 0x71 (R201). -/
def execLdxb (dst src : Reg) (off : BitVec 16) (s : State) : Out :=
  legal (.ldxb dst src off) s (loadReg .b dst src off s)

/-- `ldxdw`, opcode 0x79 (R202). -/
def execLdxdw (dst src : Reg) (off : BitVec 16) (s : State) : Out :=
  legal (.ldxdw dst src off) s (loadReg .dw dst src off s)

end Sys2Proof.Machine
end

