-- ==== Sys2Proof/Machine/Dispatch.lean ====
section
/-! DEFINITION. One arm per instruction, each a direct call of its meaning. -/

namespace Sys2Proof.Machine

def exec (i : Instr) (s : State) : Host.Outcome State Fault Refusal :=
  match i with
  | .add64K dst imm => Sys2Proof.Machine.execAdd64K dst imm s
  | .add64X dst src => Sys2Proof.Machine.execAdd64X dst src s
  | .sub64K dst imm => Sys2Proof.Machine.execSub64K dst imm s
  | .sub64X dst src => Sys2Proof.Machine.execSub64X dst src s
  | .mul64K dst imm => Sys2Proof.Machine.execMul64K dst imm s
  | .mul64X dst src => Sys2Proof.Machine.execMul64X dst src s
  | .div64K dst imm => Sys2Proof.Machine.execDiv64K dst imm s
  | .div64X dst src => Sys2Proof.Machine.execDiv64X dst src s
  | .or64K dst imm => Sys2Proof.Machine.execOr64K dst imm s
  | .or64X dst src => Sys2Proof.Machine.execOr64X dst src s
  | .and64K dst imm => Sys2Proof.Machine.execAnd64K dst imm s
  | .and64X dst src => Sys2Proof.Machine.execAnd64X dst src s
  | .lsh64K dst imm => Sys2Proof.Machine.execLsh64K dst imm s
  | .lsh64X dst src => Sys2Proof.Machine.execLsh64X dst src s
  | .rsh64K dst imm => Sys2Proof.Machine.execRsh64K dst imm s
  | .rsh64X dst src => Sys2Proof.Machine.execRsh64X dst src s
  | .neg64K dst imm => Sys2Proof.Machine.execNeg64K dst imm s
  | .neg64X dst src => Sys2Proof.Machine.execNeg64X dst src s
  | .mod64K dst imm => Sys2Proof.Machine.execMod64K dst imm s
  | .mod64X dst src => Sys2Proof.Machine.execMod64X dst src s
  | .xor64K dst imm => Sys2Proof.Machine.execXor64K dst imm s
  | .xor64X dst src => Sys2Proof.Machine.execXor64X dst src s
  | .mov64K dst imm => Sys2Proof.Machine.execMov64K dst imm s
  | .mov64X dst src => Sys2Proof.Machine.execMov64X dst src s
  | .arsh64K dst imm => Sys2Proof.Machine.execArsh64K dst imm s
  | .arsh64X dst src => Sys2Proof.Machine.execArsh64X dst src s
  | .add32K dst imm => Sys2Proof.Machine.execAdd32K dst imm s
  | .add32X dst src => Sys2Proof.Machine.execAdd32X dst src s
  | .sub32K dst imm => Sys2Proof.Machine.execSub32K dst imm s
  | .sub32X dst src => Sys2Proof.Machine.execSub32X dst src s
  | .mul32K dst imm => Sys2Proof.Machine.execMul32K dst imm s
  | .mul32X dst src => Sys2Proof.Machine.execMul32X dst src s
  | .div32K dst imm => Sys2Proof.Machine.execDiv32K dst imm s
  | .div32X dst src => Sys2Proof.Machine.execDiv32X dst src s
  | .or32K dst imm => Sys2Proof.Machine.execOr32K dst imm s
  | .or32X dst src => Sys2Proof.Machine.execOr32X dst src s
  | .and32K dst imm => Sys2Proof.Machine.execAnd32K dst imm s
  | .and32X dst src => Sys2Proof.Machine.execAnd32X dst src s
  | .lsh32K dst imm => Sys2Proof.Machine.execLsh32K dst imm s
  | .lsh32X dst src => Sys2Proof.Machine.execLsh32X dst src s
  | .rsh32K dst imm => Sys2Proof.Machine.execRsh32K dst imm s
  | .rsh32X dst src => Sys2Proof.Machine.execRsh32X dst src s
  | .neg32K dst imm => Sys2Proof.Machine.execNeg32K dst imm s
  | .neg32X dst src => Sys2Proof.Machine.execNeg32X dst src s
  | .mod32K dst imm => Sys2Proof.Machine.execMod32K dst imm s
  | .mod32X dst src => Sys2Proof.Machine.execMod32X dst src s
  | .xor32K dst imm => Sys2Proof.Machine.execXor32K dst imm s
  | .xor32X dst src => Sys2Proof.Machine.execXor32X dst src s
  | .mov32K dst imm => Sys2Proof.Machine.execMov32K dst imm s
  | .mov32X dst src => Sys2Proof.Machine.execMov32X dst src s
  | .arsh32K dst imm => Sys2Proof.Machine.execArsh32K dst imm s
  | .arsh32X dst src => Sys2Proof.Machine.execArsh32X dst src s
  | .le16 dst => Sys2Proof.Machine.execLe16 dst s
  | .le32 dst => Sys2Proof.Machine.execLe32 dst s
  | .le64 dst => Sys2Proof.Machine.execLe64 dst s
  | .be16 dst => Sys2Proof.Machine.execBe16 dst s
  | .be32 dst => Sys2Proof.Machine.execBe32 dst s
  | .be64 dst => Sys2Proof.Machine.execBe64 dst s
  | .ja off => Sys2Proof.Machine.execJa off s
  | .jeqK dst imm off => Sys2Proof.Machine.execJeqK dst imm off s
  | .jeqX dst src off => Sys2Proof.Machine.execJeqX dst src off s
  | .jgtK dst imm off => Sys2Proof.Machine.execJgtK dst imm off s
  | .jgtX dst src off => Sys2Proof.Machine.execJgtX dst src off s
  | .jgeK dst imm off => Sys2Proof.Machine.execJgeK dst imm off s
  | .jgeX dst src off => Sys2Proof.Machine.execJgeX dst src off s
  | .jsetK dst imm off => Sys2Proof.Machine.execJsetK dst imm off s
  | .jsetX dst src off => Sys2Proof.Machine.execJsetX dst src off s
  | .jneK dst imm off => Sys2Proof.Machine.execJneK dst imm off s
  | .jneX dst src off => Sys2Proof.Machine.execJneX dst src off s
  | .jsgtK dst imm off => Sys2Proof.Machine.execJsgtK dst imm off s
  | .jsgtX dst src off => Sys2Proof.Machine.execJsgtX dst src off s
  | .jsgeK dst imm off => Sys2Proof.Machine.execJsgeK dst imm off s
  | .jsgeX dst src off => Sys2Proof.Machine.execJsgeX dst src off s
  | .jltK dst imm off => Sys2Proof.Machine.execJltK dst imm off s
  | .jltX dst src off => Sys2Proof.Machine.execJltX dst src off s
  | .jleK dst imm off => Sys2Proof.Machine.execJleK dst imm off s
  | .jleX dst src off => Sys2Proof.Machine.execJleX dst src off s
  | .jsltK dst imm off => Sys2Proof.Machine.execJsltK dst imm off s
  | .jsltX dst src off => Sys2Proof.Machine.execJsltX dst src off s
  | .jsleK dst imm off => Sys2Proof.Machine.execJsleK dst imm off s
  | .jsleX dst src off => Sys2Proof.Machine.execJsleX dst src off s
  | .jeq32K dst imm off => Sys2Proof.Machine.execJeq32K dst imm off s
  | .jeq32X dst src off => Sys2Proof.Machine.execJeq32X dst src off s
  | .jgt32K dst imm off => Sys2Proof.Machine.execJgt32K dst imm off s
  | .jgt32X dst src off => Sys2Proof.Machine.execJgt32X dst src off s
  | .jge32K dst imm off => Sys2Proof.Machine.execJge32K dst imm off s
  | .jge32X dst src off => Sys2Proof.Machine.execJge32X dst src off s
  | .jset32K dst imm off => Sys2Proof.Machine.execJset32K dst imm off s
  | .jset32X dst src off => Sys2Proof.Machine.execJset32X dst src off s
  | .jne32K dst imm off => Sys2Proof.Machine.execJne32K dst imm off s
  | .jne32X dst src off => Sys2Proof.Machine.execJne32X dst src off s
  | .jsgt32K dst imm off => Sys2Proof.Machine.execJsgt32K dst imm off s
  | .jsgt32X dst src off => Sys2Proof.Machine.execJsgt32X dst src off s
  | .jsge32K dst imm off => Sys2Proof.Machine.execJsge32K dst imm off s
  | .jsge32X dst src off => Sys2Proof.Machine.execJsge32X dst src off s
  | .jlt32K dst imm off => Sys2Proof.Machine.execJlt32K dst imm off s
  | .jlt32X dst src off => Sys2Proof.Machine.execJlt32X dst src off s
  | .jle32K dst imm off => Sys2Proof.Machine.execJle32K dst imm off s
  | .jle32X dst src off => Sys2Proof.Machine.execJle32X dst src off s
  | .jslt32K dst imm off => Sys2Proof.Machine.execJslt32K dst imm off s
  | .jslt32X dst src off => Sys2Proof.Machine.execJslt32X dst src off s
  | .jsle32K dst imm off => Sys2Proof.Machine.execJsle32K dst imm off s
  | .jsle32X dst src off => Sys2Proof.Machine.execJsle32X dst src off s
  | .call imm => Sys2Proof.Machine.execCall imm s
  | .exit => Sys2Proof.Machine.execExit s
  | .stxw dst src off => Sys2Proof.Machine.execStxw dst src off s
  | .stxh dst src off => Sys2Proof.Machine.execStxh dst src off s
  | .stxb dst src off => Sys2Proof.Machine.execStxb dst src off s
  | .stxdw dst src off => Sys2Proof.Machine.execStxdw dst src off s
  | .stw dst off imm => Sys2Proof.Machine.execStw dst off imm s
  | .sth dst off imm => Sys2Proof.Machine.execSth dst off imm s
  | .stb dst off imm => Sys2Proof.Machine.execStb dst off imm s
  | .stdw dst off imm => Sys2Proof.Machine.execStdw dst off imm s
  | .ldxw dst src off => Sys2Proof.Machine.execLdxw dst src off s
  | .ldxh dst src off => Sys2Proof.Machine.execLdxh dst src off s
  | .ldxb dst src off => Sys2Proof.Machine.execLdxb dst src off s
  | .ldxdw dst src off => Sys2Proof.Machine.execLdxdw dst src off s
  | .atomicAdd32 dst src off => Sys2Proof.Machine.execAtomicAdd32 dst src off s
  | .atomicAdd64 dst src off => Sys2Proof.Machine.execAtomicAdd64 dst src off s
  | .atomicFetchAdd32 dst src off => Sys2Proof.Machine.execAtomicFetchAdd32 dst src off s
  | .atomicFetchAdd64 dst src off => Sys2Proof.Machine.execAtomicFetchAdd64 dst src off s
  | .atomicOr32 dst src off => Sys2Proof.Machine.execAtomicOr32 dst src off s
  | .atomicOr64 dst src off => Sys2Proof.Machine.execAtomicOr64 dst src off s
  | .atomicFetchOr32 dst src off => Sys2Proof.Machine.execAtomicFetchOr32 dst src off s
  | .atomicFetchOr64 dst src off => Sys2Proof.Machine.execAtomicFetchOr64 dst src off s
  | .atomicAnd32 dst src off => Sys2Proof.Machine.execAtomicAnd32 dst src off s
  | .atomicAnd64 dst src off => Sys2Proof.Machine.execAtomicAnd64 dst src off s
  | .atomicFetchAnd32 dst src off => Sys2Proof.Machine.execAtomicFetchAnd32 dst src off s
  | .atomicFetchAnd64 dst src off => Sys2Proof.Machine.execAtomicFetchAnd64 dst src off s
  | .atomicXor32 dst src off => Sys2Proof.Machine.execAtomicXor32 dst src off s
  | .atomicXor64 dst src off => Sys2Proof.Machine.execAtomicXor64 dst src off s
  | .atomicFetchXor32 dst src off => Sys2Proof.Machine.execAtomicFetchXor32 dst src off s
  | .atomicFetchXor64 dst src off => Sys2Proof.Machine.execAtomicFetchXor64 dst src off s
  | .atomicXchg32 dst src off => Sys2Proof.Machine.execAtomicXchg32 dst src off s
  | .atomicXchg64 dst src off => Sys2Proof.Machine.execAtomicXchg64 dst src off s
  | .atomicCmpxchg32 dst src off => Sys2Proof.Machine.execAtomicCmpxchg32 dst src off s
  | .atomicCmpxchg64 dst src off => Sys2Proof.Machine.execAtomicCmpxchg64 dst src off s
  | .ldImm64 dst imm64 => Sys2Proof.Machine.execLdImm64 dst imm64 s
  | .ldAbs size rest => Sys2Proof.Machine.execLdAbs size rest s
  | .ldInd size rest => Sys2Proof.Machine.execLdInd size rest s

end Sys2Proof.Machine
end

