-- ==== Sys2Proof/Machine/Fetch.lean ====
section
/-! DEFINITION. Fetching and decoding the instruction at the program counter (`30_encoding.md` R76, R80). -/

namespace Sys2Proof.Machine

/-- Scanning a program from its first slot, whether slot `k` is the second slot of a wide instruction (`60_exceptions.md` R245).
`second`: whether the first slot of the list is one. -/
def scanSecond (second : Bool) (prog : List Word) (k : Nat) : Bool :=
  match prog, k with
  | [], _ => false
  | _ :: _, 0 => second
  | w :: rest, k + 1 => scanSecond (!second && isWideWord w) rest k

/-- Whether slot `k` is the second slot of a wide instruction, by the scan from slot 0 (`30_encoding.md` R76). -/
def isSecondSlot (prog : List Word) (k : Nat) : Bool := scanSecond false prog k

/-- The instruction the decoder reads at slot `k`, or its fault (`30_encoding.md` R80 steps 2 to 6). -/
def decodeAt (s : State) (k : Nat) (w : Word) : Except Fault Instr :=
  match decode s.cfg.negReading s.cfg.imm64Form w s.prog[k + 1]? with
  | .ok i => .ok i
  | .error .illegal => .error (.illegalInstruction k w)
  | .error .truncatedWide => .error (.truncatedWide k)

/-- The instruction at the program counter, or the fault of the fetch, in the order of `30_encoding.md` R80. A run that has ended
fetches nothing (`70_reset_and_hazards.md` R274). -/
def fetch (s : State) : Except Fault Instr :=
  match s.status with
  | .running =>
    match s.pc with
    | .ofNat k =>
      match s.prog[k]? with
      | none => .error (.pcOutOfRange s.pc)
      | some w => if isSecondSlot s.prog k then .error (.jumpIntoWide s.pc) else decodeAt s k w
    | .negSucc _ => .error (.pcOutOfRange s.pc)
  | .exited _ => .error .notRunning
  | .faulted _ => .error .notRunning
  | .refused _ => .error .notRunning

/-- A launch of a program handed over as bytes, in the layout of its configuration (`20_memory.md` R55). `none`: the bytes do not fill
whole slots (log entry 28). -/
def State.launchBytes (cfg : Config) (bytes : List Byte) (mem : List Host.Cell) : Option State :=
  match programOfBytes cfg.insnLayout bytes with
  | some prog => some (State.launch cfg prog mem)
  | none => none

/-- The program with a word and the slot after it in slots `k` and `k + 1`, whatever was in them. The slots before hold words of one slot
each, so that the scan finds slot `k` to be the first slot of an instruction. -/
def placeWords (prog : List Word) (k : Nat) (w w2 : Word) : List Word :=
  List.replicate k 0#64 ++ w :: w2 :: prog.drop (k + 2)

end Sys2Proof.Machine
end

