-- ==== Sys2Proof/Machine/Step.lean ====
section
/-! DEFINITION. One step: fetch, decode, execute (`00_scope.md` R12). -/

namespace Sys2Proof.Machine

/-- One step of the machine: the fault of the fetch, or what the fetched instruction does. -/
def step (s : State) : Host.Outcome State Fault Refusal :=
  match fetch s with
  | .ok i => exec i s
  | .error f => raise f

/-- The state with the instruction whose bits are `w` in the program text where the next step fetches it: the run is going on, `pc` names
a slot, and that slot and the next hold the instruction's words (log entries 10 and 26). -/
def State.withFetchWord (s : State) (nbits w : Nat) : State :=
  let bits := w % 2 ^ nbits
  { s with
    prog := placeWords s.prog s.pc.toNat (BitVec.ofNat 64 bits) (BitVec.ofNat 64 (bits / 2 ^ 64))
    pc := s.pc.toNat
    status := .running }

end Sys2Proof.Machine
end

