-- ==== Sys2Proof/Safety.lean ====
section
/-! DEFINITION. The terms claims are stated in: the invariant of the machine, what each instruction may read, write and access, and the
effect of a completed step in plain numbers. -/

namespace Sys2Proof.Machine

/-- The invariant of the machine: data memory is in its canonical form, and R10 holds `FP_INIT` (`20_memory.md` R45). -/
abbrev State.Inv (s : State) : Prop := Memory.wf s.mem = true ∧ s.regs.get .r10 = s.cfg.fpInit

/-! ### What an instruction reads, writes and accesses -/

/-- The registers an instruction may write or make unwritten (`10_state.md` R35, column "writes"). -/
def writtenRegs : Instr → List Reg
  -- 64-bit arithmetic (`40_alu64.md`)
  | .add64K dst _ => [dst]
  | .add64X dst _ => [dst]
  | .sub64K dst _ => [dst]
  | .sub64X dst _ => [dst]
  | .mul64K dst _ => [dst]
  | .mul64X dst _ => [dst]
  | .div64K dst _ => [dst]
  | .div64X dst _ => [dst]
  | .or64K dst _ => [dst]
  | .or64X dst _ => [dst]
  | .and64K dst _ => [dst]
  | .and64X dst _ => [dst]
  | .lsh64K dst _ => [dst]
  | .lsh64X dst _ => [dst]
  | .rsh64K dst _ => [dst]
  | .rsh64X dst _ => [dst]
  | .neg64K dst _ => [dst]
  | .neg64X dst _ => [dst]
  | .mod64K dst _ => [dst]
  | .mod64X dst _ => [dst]
  | .xor64K dst _ => [dst]
  | .xor64X dst _ => [dst]
  | .mov64K dst _ => [dst]
  | .mov64X dst _ => [dst]
  | .arsh64K dst _ => [dst]
  | .arsh64X dst _ => [dst]
  -- 32-bit arithmetic (`41_alu32.md`)
  | .add32K dst _ => [dst]
  | .add32X dst _ => [dst]
  | .sub32K dst _ => [dst]
  | .sub32X dst _ => [dst]
  | .mul32K dst _ => [dst]
  | .mul32X dst _ => [dst]
  | .div32K dst _ => [dst]
  | .div32X dst _ => [dst]
  | .or32K dst _ => [dst]
  | .or32X dst _ => [dst]
  | .and32K dst _ => [dst]
  | .and32X dst _ => [dst]
  | .lsh32K dst _ => [dst]
  | .lsh32X dst _ => [dst]
  | .rsh32K dst _ => [dst]
  | .rsh32X dst _ => [dst]
  | .neg32K dst _ => [dst]
  | .neg32X dst _ => [dst]
  | .mod32K dst _ => [dst]
  | .mod32X dst _ => [dst]
  | .xor32K dst _ => [dst]
  | .xor32X dst _ => [dst]
  | .mov32K dst _ => [dst]
  | .mov32X dst _ => [dst]
  | .arsh32K dst _ => [dst]
  | .arsh32X dst _ => [dst]
  -- Byte swaps (`42_byteswap.md`)
  | .le16 dst => [dst]
  | .le32 dst => [dst]
  | .le64 dst => [dst]
  | .be16 dst => [dst]
  | .be32 dst => [dst]
  | .be64 dst => [dst]
  -- Unconditional jump and 64-bit conditional jumps (`43_jump.md`)
  | .ja _ => []
  | .jeqK _ _ _ => []
  | .jeqX _ _ _ => []
  | .jgtK _ _ _ => []
  | .jgtX _ _ _ => []
  | .jgeK _ _ _ => []
  | .jgeX _ _ _ => []
  | .jsetK _ _ _ => []
  | .jsetX _ _ _ => []
  | .jneK _ _ _ => []
  | .jneX _ _ _ => []
  | .jsgtK _ _ _ => []
  | .jsgtX _ _ _ => []
  | .jsgeK _ _ _ => []
  | .jsgeX _ _ _ => []
  | .jltK _ _ _ => []
  | .jltX _ _ _ => []
  | .jleK _ _ _ => []
  | .jleX _ _ _ => []
  | .jsltK _ _ _ => []
  | .jsltX _ _ _ => []
  | .jsleK _ _ _ => []
  | .jsleX _ _ _ => []
  -- 32-bit conditional jumps (`43_jump.md`)
  | .jeq32K _ _ _ => []
  | .jeq32X _ _ _ => []
  | .jgt32K _ _ _ => []
  | .jgt32X _ _ _ => []
  | .jge32K _ _ _ => []
  | .jge32X _ _ _ => []
  | .jset32K _ _ _ => []
  | .jset32X _ _ _ => []
  | .jne32K _ _ _ => []
  | .jne32X _ _ _ => []
  | .jsgt32K _ _ _ => []
  | .jsgt32X _ _ _ => []
  | .jsge32K _ _ _ => []
  | .jsge32X _ _ _ => []
  | .jlt32K _ _ _ => []
  | .jlt32X _ _ _ => []
  | .jle32K _ _ _ => []
  | .jle32X _ _ _ => []
  | .jslt32K _ _ _ => []
  | .jslt32X _ _ _ => []
  | .jsle32K _ _ _ => []
  | .jsle32X _ _ _ => []
  -- Call and exit (`43_jump.md`)
  | .call _ => [.r0, .r1, .r2, .r3, .r4, .r5]
  | .exit => []
  -- Regular stores and loads (`44_load_store.md`)
  | .stxw _ _ _ => []
  | .stxh _ _ _ => []
  | .stxb _ _ _ => []
  | .stxdw _ _ _ => []
  | .stw _ _ _ => []
  | .sth _ _ _ => []
  | .stb _ _ _ => []
  | .stdw _ _ _ => []
  | .ldxw dst _ _ => [dst]
  | .ldxh dst _ _ => [dst]
  | .ldxb dst _ _ => [dst]
  | .ldxdw dst _ _ => [dst]
  -- Atomic operations (`45_atomic.md`)
  | .atomicAdd32 _ _ _ => []
  | .atomicAdd64 _ _ _ => []
  | .atomicFetchAdd32 _ src _ => [src]
  | .atomicFetchAdd64 _ src _ => [src]
  | .atomicOr32 _ _ _ => []
  | .atomicOr64 _ _ _ => []
  | .atomicFetchOr32 _ src _ => [src]
  | .atomicFetchOr64 _ src _ => [src]
  | .atomicAnd32 _ _ _ => []
  | .atomicAnd64 _ _ _ => []
  | .atomicFetchAnd32 _ src _ => [src]
  | .atomicFetchAnd64 _ src _ => [src]
  | .atomicXor32 _ _ _ => []
  | .atomicXor64 _ _ _ => []
  | .atomicFetchXor32 _ src _ => [src]
  | .atomicFetchXor64 _ src _ => [src]
  | .atomicXchg32 _ src _ => [src]
  | .atomicXchg64 _ src _ => [src]
  | .atomicCmpxchg32 _ _ _ => [.r0]
  | .atomicCmpxchg64 _ _ _ => [.r0]
  -- 64-bit immediate load (`46_imm64.md`)
  | .ldImm64 dst _ => [dst]
  -- Legacy packet access (`47_legacy_packet.md`)
  | .ldAbs _ _ => []
  | .ldInd _ _ => []

/-- The registers an instruction reads, in the order in which they are checked (`10_state.md` R35, column "reads"; `60_exceptions.md`
R247), under a reading of `BPF_NEG`. A call reads the argument registers of the function it finds, which are not listed here. -/
def readRegList (neg : NegReading) : Instr → List Reg
  -- 64-bit arithmetic (`40_alu64.md`)
  | .add64K dst _ => [dst]
  | .add64X dst src => [dst, src]
  | .sub64K dst _ => [dst]
  | .sub64X dst src => [dst, src]
  | .mul64K dst _ => [dst]
  | .mul64X dst src => [dst, src]
  | .div64K dst _ => [dst]
  | .div64X dst src => [dst, src]
  | .or64K dst _ => [dst]
  | .or64X dst src => [dst, src]
  | .and64K dst _ => [dst]
  | .and64X dst src => [dst, src]
  | .lsh64K dst _ => [dst]
  | .lsh64X dst src => [dst, src]
  | .rsh64K dst _ => [dst]
  | .rsh64X dst src => [dst, src]
  | .neg64K dst _ => if neg = .source then [] else [dst]
  | .neg64X dst src => if neg = .source then [src] else [dst]
  | .mod64K dst _ => [dst]
  | .mod64X dst src => [dst, src]
  | .xor64K dst _ => [dst]
  | .xor64X dst src => [dst, src]
  | .mov64K _ _ => []
  | .mov64X _ src => [src]
  | .arsh64K dst _ => [dst]
  | .arsh64X dst src => [dst, src]
  -- 32-bit arithmetic (`41_alu32.md`)
  | .add32K dst _ => [dst]
  | .add32X dst src => [dst, src]
  | .sub32K dst _ => [dst]
  | .sub32X dst src => [dst, src]
  | .mul32K dst _ => [dst]
  | .mul32X dst src => [dst, src]
  | .div32K dst _ => [dst]
  | .div32X dst src => [dst, src]
  | .or32K dst _ => [dst]
  | .or32X dst src => [dst, src]
  | .and32K dst _ => [dst]
  | .and32X dst src => [dst, src]
  | .lsh32K dst _ => [dst]
  | .lsh32X dst src => [dst, src]
  | .rsh32K dst _ => [dst]
  | .rsh32X dst src => [dst, src]
  | .neg32K dst _ => if neg = .source then [] else [dst]
  | .neg32X dst src => if neg = .source then [src] else [dst]
  | .mod32K dst _ => [dst]
  | .mod32X dst src => [dst, src]
  | .xor32K dst _ => [dst]
  | .xor32X dst src => [dst, src]
  | .mov32K _ _ => []
  | .mov32X _ src => [src]
  | .arsh32K dst _ => [dst]
  | .arsh32X dst src => [dst, src]
  -- Byte swaps (`42_byteswap.md`)
  | .le16 dst => [dst]
  | .le32 dst => [dst]
  | .le64 dst => [dst]
  | .be16 dst => [dst]
  | .be32 dst => [dst]
  | .be64 dst => [dst]
  -- Unconditional jump and 64-bit conditional jumps (`43_jump.md`)
  | .ja _ => []
  | .jeqK dst _ _ => [dst]
  | .jeqX dst src _ => [dst, src]
  | .jgtK dst _ _ => [dst]
  | .jgtX dst src _ => [dst, src]
  | .jgeK dst _ _ => [dst]
  | .jgeX dst src _ => [dst, src]
  | .jsetK dst _ _ => [dst]
  | .jsetX dst src _ => [dst, src]
  | .jneK dst _ _ => [dst]
  | .jneX dst src _ => [dst, src]
  | .jsgtK dst _ _ => [dst]
  | .jsgtX dst src _ => [dst, src]
  | .jsgeK dst _ _ => [dst]
  | .jsgeX dst src _ => [dst, src]
  | .jltK dst _ _ => [dst]
  | .jltX dst src _ => [dst, src]
  | .jleK dst _ _ => [dst]
  | .jleX dst src _ => [dst, src]
  | .jsltK dst _ _ => [dst]
  | .jsltX dst src _ => [dst, src]
  | .jsleK dst _ _ => [dst]
  | .jsleX dst src _ => [dst, src]
  -- 32-bit conditional jumps (`43_jump.md`)
  | .jeq32K dst _ _ => [dst]
  | .jeq32X dst src _ => [dst, src]
  | .jgt32K dst _ _ => [dst]
  | .jgt32X dst src _ => [dst, src]
  | .jge32K dst _ _ => [dst]
  | .jge32X dst src _ => [dst, src]
  | .jset32K dst _ _ => [dst]
  | .jset32X dst src _ => [dst, src]
  | .jne32K dst _ _ => [dst]
  | .jne32X dst src _ => [dst, src]
  | .jsgt32K dst _ _ => [dst]
  | .jsgt32X dst src _ => [dst, src]
  | .jsge32K dst _ _ => [dst]
  | .jsge32X dst src _ => [dst, src]
  | .jlt32K dst _ _ => [dst]
  | .jlt32X dst src _ => [dst, src]
  | .jle32K dst _ _ => [dst]
  | .jle32X dst src _ => [dst, src]
  | .jslt32K dst _ _ => [dst]
  | .jslt32X dst src _ => [dst, src]
  | .jsle32K dst _ _ => [dst]
  | .jsle32X dst src _ => [dst, src]
  -- Call and exit (`43_jump.md`)
  | .call _ => []
  | .exit => [.r0]
  -- Regular stores and loads (`44_load_store.md`)
  | .stxw dst src _ => [dst, src]
  | .stxh dst src _ => [dst, src]
  | .stxb dst src _ => [dst, src]
  | .stxdw dst src _ => [dst, src]
  | .stw dst _ _ => [dst]
  | .sth dst _ _ => [dst]
  | .stb dst _ _ => [dst]
  | .stdw dst _ _ => [dst]
  | .ldxw _ src _ => [src]
  | .ldxh _ src _ => [src]
  | .ldxb _ src _ => [src]
  | .ldxdw _ src _ => [src]
  -- Atomic operations (`45_atomic.md`)
  | .atomicAdd32 dst src _ => [dst, src]
  | .atomicAdd64 dst src _ => [dst, src]
  | .atomicFetchAdd32 dst src _ => [dst, src]
  | .atomicFetchAdd64 dst src _ => [dst, src]
  | .atomicOr32 dst src _ => [dst, src]
  | .atomicOr64 dst src _ => [dst, src]
  | .atomicFetchOr32 dst src _ => [dst, src]
  | .atomicFetchOr64 dst src _ => [dst, src]
  | .atomicAnd32 dst src _ => [dst, src]
  | .atomicAnd64 dst src _ => [dst, src]
  | .atomicFetchAnd32 dst src _ => [dst, src]
  | .atomicFetchAnd64 dst src _ => [dst, src]
  | .atomicXor32 dst src _ => [dst, src]
  | .atomicXor64 dst src _ => [dst, src]
  | .atomicFetchXor32 dst src _ => [dst, src]
  | .atomicFetchXor64 dst src _ => [dst, src]
  | .atomicXchg32 dst src _ => [dst, src]
  | .atomicXchg64 dst src _ => [dst, src]
  | .atomicCmpxchg32 dst src _ => [dst, src, .r0]
  | .atomicCmpxchg64 dst src _ => [dst, src, .r0]
  -- 64-bit immediate load (`46_imm64.md`)
  | .ldImm64 _ _ => []
  -- Legacy packet access (`47_legacy_packet.md`)
  | .ldAbs _ _ => []
  | .ldInd _ _ => []

/-- The data access of an instruction: its kind, base register, offset and size (`20_memory.md` R42, `44_load_store.md` R190). -/
def accessForm : Instr → Option (AccessKind × Reg × BitVec 16 × Size)
  -- 64-bit arithmetic (`40_alu64.md`)
  | .add64K _ _ => none
  | .add64X _ _ => none
  | .sub64K _ _ => none
  | .sub64X _ _ => none
  | .mul64K _ _ => none
  | .mul64X _ _ => none
  | .div64K _ _ => none
  | .div64X _ _ => none
  | .or64K _ _ => none
  | .or64X _ _ => none
  | .and64K _ _ => none
  | .and64X _ _ => none
  | .lsh64K _ _ => none
  | .lsh64X _ _ => none
  | .rsh64K _ _ => none
  | .rsh64X _ _ => none
  | .neg64K _ _ => none
  | .neg64X _ _ => none
  | .mod64K _ _ => none
  | .mod64X _ _ => none
  | .xor64K _ _ => none
  | .xor64X _ _ => none
  | .mov64K _ _ => none
  | .mov64X _ _ => none
  | .arsh64K _ _ => none
  | .arsh64X _ _ => none
  -- 32-bit arithmetic (`41_alu32.md`)
  | .add32K _ _ => none
  | .add32X _ _ => none
  | .sub32K _ _ => none
  | .sub32X _ _ => none
  | .mul32K _ _ => none
  | .mul32X _ _ => none
  | .div32K _ _ => none
  | .div32X _ _ => none
  | .or32K _ _ => none
  | .or32X _ _ => none
  | .and32K _ _ => none
  | .and32X _ _ => none
  | .lsh32K _ _ => none
  | .lsh32X _ _ => none
  | .rsh32K _ _ => none
  | .rsh32X _ _ => none
  | .neg32K _ _ => none
  | .neg32X _ _ => none
  | .mod32K _ _ => none
  | .mod32X _ _ => none
  | .xor32K _ _ => none
  | .xor32X _ _ => none
  | .mov32K _ _ => none
  | .mov32X _ _ => none
  | .arsh32K _ _ => none
  | .arsh32X _ _ => none
  -- Byte swaps (`42_byteswap.md`)
  | .le16 _ => none
  | .le32 _ => none
  | .le64 _ => none
  | .be16 _ => none
  | .be32 _ => none
  | .be64 _ => none
  -- Unconditional jump and 64-bit conditional jumps (`43_jump.md`)
  | .ja _ => none
  | .jeqK _ _ _ => none
  | .jeqX _ _ _ => none
  | .jgtK _ _ _ => none
  | .jgtX _ _ _ => none
  | .jgeK _ _ _ => none
  | .jgeX _ _ _ => none
  | .jsetK _ _ _ => none
  | .jsetX _ _ _ => none
  | .jneK _ _ _ => none
  | .jneX _ _ _ => none
  | .jsgtK _ _ _ => none
  | .jsgtX _ _ _ => none
  | .jsgeK _ _ _ => none
  | .jsgeX _ _ _ => none
  | .jltK _ _ _ => none
  | .jltX _ _ _ => none
  | .jleK _ _ _ => none
  | .jleX _ _ _ => none
  | .jsltK _ _ _ => none
  | .jsltX _ _ _ => none
  | .jsleK _ _ _ => none
  | .jsleX _ _ _ => none
  -- 32-bit conditional jumps (`43_jump.md`)
  | .jeq32K _ _ _ => none
  | .jeq32X _ _ _ => none
  | .jgt32K _ _ _ => none
  | .jgt32X _ _ _ => none
  | .jge32K _ _ _ => none
  | .jge32X _ _ _ => none
  | .jset32K _ _ _ => none
  | .jset32X _ _ _ => none
  | .jne32K _ _ _ => none
  | .jne32X _ _ _ => none
  | .jsgt32K _ _ _ => none
  | .jsgt32X _ _ _ => none
  | .jsge32K _ _ _ => none
  | .jsge32X _ _ _ => none
  | .jlt32K _ _ _ => none
  | .jlt32X _ _ _ => none
  | .jle32K _ _ _ => none
  | .jle32X _ _ _ => none
  | .jslt32K _ _ _ => none
  | .jslt32X _ _ _ => none
  | .jsle32K _ _ _ => none
  | .jsle32X _ _ _ => none
  -- Call and exit (`43_jump.md`)
  | .call _ => none
  | .exit => none
  -- Regular stores and loads (`44_load_store.md`)
  | .stxw dst _ off => some (.write, dst, off, .w)
  | .stxh dst _ off => some (.write, dst, off, .h)
  | .stxb dst _ off => some (.write, dst, off, .b)
  | .stxdw dst _ off => some (.write, dst, off, .dw)
  | .stw dst off _ => some (.write, dst, off, .w)
  | .sth dst off _ => some (.write, dst, off, .h)
  | .stb dst off _ => some (.write, dst, off, .b)
  | .stdw dst off _ => some (.write, dst, off, .dw)
  | .ldxw _ src off => some (.read, src, off, .w)
  | .ldxh _ src off => some (.read, src, off, .h)
  | .ldxb _ src off => some (.read, src, off, .b)
  | .ldxdw _ src off => some (.read, src, off, .dw)
  -- Atomic operations (`45_atomic.md`)
  | .atomicAdd32 dst _ off => some (.atomic, dst, off, .w)
  | .atomicAdd64 dst _ off => some (.atomic, dst, off, .dw)
  | .atomicFetchAdd32 dst _ off => some (.atomic, dst, off, .w)
  | .atomicFetchAdd64 dst _ off => some (.atomic, dst, off, .dw)
  | .atomicOr32 dst _ off => some (.atomic, dst, off, .w)
  | .atomicOr64 dst _ off => some (.atomic, dst, off, .dw)
  | .atomicFetchOr32 dst _ off => some (.atomic, dst, off, .w)
  | .atomicFetchOr64 dst _ off => some (.atomic, dst, off, .dw)
  | .atomicAnd32 dst _ off => some (.atomic, dst, off, .w)
  | .atomicAnd64 dst _ off => some (.atomic, dst, off, .dw)
  | .atomicFetchAnd32 dst _ off => some (.atomic, dst, off, .w)
  | .atomicFetchAnd64 dst _ off => some (.atomic, dst, off, .dw)
  | .atomicXor32 dst _ off => some (.atomic, dst, off, .w)
  | .atomicXor64 dst _ off => some (.atomic, dst, off, .dw)
  | .atomicFetchXor32 dst _ off => some (.atomic, dst, off, .w)
  | .atomicFetchXor64 dst _ off => some (.atomic, dst, off, .dw)
  | .atomicXchg32 dst _ off => some (.atomic, dst, off, .w)
  | .atomicXchg64 dst _ off => some (.atomic, dst, off, .dw)
  | .atomicCmpxchg32 dst _ off => some (.atomic, dst, off, .w)
  | .atomicCmpxchg64 dst _ off => some (.atomic, dst, off, .dw)
  -- 64-bit immediate load (`46_imm64.md`)
  | .ldImm64 _ _ => none
  -- Legacy packet access (`47_legacy_packet.md`)
  | .ldAbs _ _ => none
  | .ldInd _ _ => none

/-- The displacement of a jump (`43_jump.md` R151). -/
def jumpOffset : Instr → Option (BitVec 16)
  -- 64-bit arithmetic (`40_alu64.md`)
  | .add64K _ _ => none
  | .add64X _ _ => none
  | .sub64K _ _ => none
  | .sub64X _ _ => none
  | .mul64K _ _ => none
  | .mul64X _ _ => none
  | .div64K _ _ => none
  | .div64X _ _ => none
  | .or64K _ _ => none
  | .or64X _ _ => none
  | .and64K _ _ => none
  | .and64X _ _ => none
  | .lsh64K _ _ => none
  | .lsh64X _ _ => none
  | .rsh64K _ _ => none
  | .rsh64X _ _ => none
  | .neg64K _ _ => none
  | .neg64X _ _ => none
  | .mod64K _ _ => none
  | .mod64X _ _ => none
  | .xor64K _ _ => none
  | .xor64X _ _ => none
  | .mov64K _ _ => none
  | .mov64X _ _ => none
  | .arsh64K _ _ => none
  | .arsh64X _ _ => none
  -- 32-bit arithmetic (`41_alu32.md`)
  | .add32K _ _ => none
  | .add32X _ _ => none
  | .sub32K _ _ => none
  | .sub32X _ _ => none
  | .mul32K _ _ => none
  | .mul32X _ _ => none
  | .div32K _ _ => none
  | .div32X _ _ => none
  | .or32K _ _ => none
  | .or32X _ _ => none
  | .and32K _ _ => none
  | .and32X _ _ => none
  | .lsh32K _ _ => none
  | .lsh32X _ _ => none
  | .rsh32K _ _ => none
  | .rsh32X _ _ => none
  | .neg32K _ _ => none
  | .neg32X _ _ => none
  | .mod32K _ _ => none
  | .mod32X _ _ => none
  | .xor32K _ _ => none
  | .xor32X _ _ => none
  | .mov32K _ _ => none
  | .mov32X _ _ => none
  | .arsh32K _ _ => none
  | .arsh32X _ _ => none
  -- Byte swaps (`42_byteswap.md`)
  | .le16 _ => none
  | .le32 _ => none
  | .le64 _ => none
  | .be16 _ => none
  | .be32 _ => none
  | .be64 _ => none
  -- Unconditional jump and 64-bit conditional jumps (`43_jump.md`)
  | .ja off => some off
  | .jeqK _ _ off => some off
  | .jeqX _ _ off => some off
  | .jgtK _ _ off => some off
  | .jgtX _ _ off => some off
  | .jgeK _ _ off => some off
  | .jgeX _ _ off => some off
  | .jsetK _ _ off => some off
  | .jsetX _ _ off => some off
  | .jneK _ _ off => some off
  | .jneX _ _ off => some off
  | .jsgtK _ _ off => some off
  | .jsgtX _ _ off => some off
  | .jsgeK _ _ off => some off
  | .jsgeX _ _ off => some off
  | .jltK _ _ off => some off
  | .jltX _ _ off => some off
  | .jleK _ _ off => some off
  | .jleX _ _ off => some off
  | .jsltK _ _ off => some off
  | .jsltX _ _ off => some off
  | .jsleK _ _ off => some off
  | .jsleX _ _ off => some off
  -- 32-bit conditional jumps (`43_jump.md`)
  | .jeq32K _ _ off => some off
  | .jeq32X _ _ off => some off
  | .jgt32K _ _ off => some off
  | .jgt32X _ _ off => some off
  | .jge32K _ _ off => some off
  | .jge32X _ _ off => some off
  | .jset32K _ _ off => some off
  | .jset32X _ _ off => some off
  | .jne32K _ _ off => some off
  | .jne32X _ _ off => some off
  | .jsgt32K _ _ off => some off
  | .jsgt32X _ _ off => some off
  | .jsge32K _ _ off => some off
  | .jsge32X _ _ off => some off
  | .jlt32K _ _ off => some off
  | .jlt32X _ _ off => some off
  | .jle32K _ _ off => some off
  | .jle32X _ _ off => some off
  | .jslt32K _ _ off => some off
  | .jslt32X _ _ off => some off
  | .jsle32K _ _ off => some off
  | .jsle32X _ _ off => some off
  -- Call and exit (`43_jump.md`)
  | .call _ => none
  | .exit => none
  -- Regular stores and loads (`44_load_store.md`)
  | .stxw _ _ _ => none
  | .stxh _ _ _ => none
  | .stxb _ _ _ => none
  | .stxdw _ _ _ => none
  | .stw _ _ _ => none
  | .sth _ _ _ => none
  | .stb _ _ _ => none
  | .stdw _ _ _ => none
  | .ldxw _ _ _ => none
  | .ldxh _ _ _ => none
  | .ldxb _ _ _ => none
  | .ldxdw _ _ _ => none
  -- Atomic operations (`45_atomic.md`)
  | .atomicAdd32 _ _ _ => none
  | .atomicAdd64 _ _ _ => none
  | .atomicFetchAdd32 _ _ _ => none
  | .atomicFetchAdd64 _ _ _ => none
  | .atomicOr32 _ _ _ => none
  | .atomicOr64 _ _ _ => none
  | .atomicFetchOr32 _ _ _ => none
  | .atomicFetchOr64 _ _ _ => none
  | .atomicAnd32 _ _ _ => none
  | .atomicAnd64 _ _ _ => none
  | .atomicFetchAnd32 _ _ _ => none
  | .atomicFetchAnd64 _ _ _ => none
  | .atomicXor32 _ _ _ => none
  | .atomicXor64 _ _ _ => none
  | .atomicFetchXor32 _ _ _ => none
  | .atomicFetchXor64 _ _ _ => none
  | .atomicXchg32 _ _ _ => none
  | .atomicXchg64 _ _ _ => none
  | .atomicCmpxchg32 _ _ _ => none
  | .atomicCmpxchg64 _ _ _ => none
  -- 64-bit immediate load (`46_imm64.md`)
  | .ldImm64 _ _ => none
  -- Legacy packet access (`47_legacy_packet.md`)
  | .ldAbs _ _ => none
  | .ldInd _ _ => none

/-- The address an instruction stores to from a state, and the number of bytes, computed as its meaning computes it. `none`: it stores
nothing by itself (a called function may write: `callMemory`). -/
def storeSpan (i : Instr) (s : State) : Option (Word × Nat) :=
  match accessForm i with
  | some (.read, _, _, _) => none
  | some (_, base, off, size) => some (effectiveAddress (s.value 0 base) off, sizeBytes size)
  | none => none

/-- The opcode bytes the source does not define, by class, code, mode and size (`30_encoding.md` R77 item 1). -/
def reservedOpcode (op : BitVec 8) : Bool :=
  let cls := op.toNat % 8
  let code := op.toNat / 16
  let mode := op.toNat / 32
  let srcBit := op.toNat / 8 % 2
  match cls with
  | 0 => !(op == 0x18#8 || mode == 1 || mode == 2)
  | 1 => mode != 3
  | 2 => mode != 3
  | 3 => !(mode == 3 || op == 0xc3#8 || op == 0xdb#8)
  | 4 => code == 14 || code == 15
  | 5 => code == 14 || code == 15 || (srcBit == 1 && (code == 0 || code == 8 || code == 9))
  | 6 => code == 14 || code == 15 || code == 0 || code == 8 || code == 9
  | _ => code == 13 || code == 14 || code == 15

/-! ### Operands as numbers -/

/-- The number a `w`-bit value of `n` reads as in two's complement (`00_scope.md` R9). -/
def signedNat (w n : Nat) : Int := if n < 2 ^ (w - 1) then (n : Int) else (n : Int) - 2 ^ w

/-- A 32-bit immediate sign extended to 64 bits, as an unsigned number (`30_encoding.md` R72). -/
def sextNat (m : BitVec 32) : Nat := if m.toNat < 2 ^ 31 then m.toNat else 2 ^ 64 - 2 ^ 32 + m.toNat

/-- The 64-bit source operand as an unsigned number (`40_alu64.md` R100, `43_jump.md` R150). -/
def srcNat64 (s : State) : Operand → Nat
  | .imm m => sextNat m
  | .reg r => (s.value 1 r).toNat

/-- The 32-bit source operand as an unsigned number (`41_alu32.md` R120, `43_jump.md` R150). -/
def srcNat32 (s : State) : Operand → Nat
  | .imm m => m.toNat
  | .reg r => (s.value 1 r).toNat % 2 ^ 32

/-- A source operand that can be read: an immediate, or a readable register. -/
def srcReadable (s : State) : Operand → Prop
  | .imm _ => True
  | .reg r => s.readable r = true

/-- The immediate or the register form of an arithmetic instruction, by its operand. -/
def aluForm (k : Reg → BitVec 32 → Instr) (x : Reg → Reg → Instr) (dst : Reg) : Operand → Instr
  | .imm m => k dst m
  | .reg r => x dst r

/-- The immediate or the register form of a conditional jump, by its operand. -/
def jumpForm (k : Reg → BitVec 32 → BitVec 16 → Instr) (x : Reg → Reg → BitVec 16 → Instr) (dst : Reg) (off : BitVec 16) :
    Operand → Instr
  | .imm m => k dst m off
  | .reg r => x dst r off

/-! ### Bytes as numbers -/

/-- The number that bytes in address order make in the order of the host (`20_memory.md` R41). -/
def bytesNat (e : Endian) (bs : List Byte) : Nat :=
  match e with
  | .little => bs.foldr (fun b acc => b.toNat + 256 * acc) 0
  | .big => bs.foldl (fun acc b => 256 * acc + b.toNat) 0

/-- The value of `n` bytes of data memory at an address (`20_memory.md` R41). -/
def loadNat (s : State) (a n : Nat) : Nat :=
  bytesNat s.cfg.hostEndian ((List.range n).map fun k => memByte s.mem (a + k))

/-- Byte `k` in address order of the low `n` bytes of a value, in the order of the host (`20_memory.md` R41). -/
def hostByteNat (e : Endian) (n v k : Nat) : Nat :=
  match e with
  | .little => v / 256 ^ k % 256
  | .big => v / 256 ^ (n - 1 - k) % 256

/-! ### The effect of a completed step -/

/-- From `s` to `t` exactly one register is written, with the value `v`; or none is. -/
def WritesOnly (s t : State) : Option (Reg × Nat) → Prop
  | none => t.regs = s.regs ∧ t.written = s.written
  | some (d, v) => (t.regs.get d).toNat = v ∧ t.isWritten d = true ∧
      ∀ r, r ≠ d → t.regs.get r = s.regs.get r ∧ t.isWritten r = s.isWritten r

/-- From `s` to `t` exactly `n` bytes at `a` are stored, those of the value `v` in the order of the host; or none is. -/
def StoresOnly (s t : State) : Option (Nat × Nat × Nat) → Prop
  | none => t.mem = s.mem
  | some (a, n, v) => (∀ k, k < n → (memByte t.mem (a + k)).toNat = hostByteNat s.cfg.hostEndian n v k) ∧
      ∀ x, x < a ∨ a + n ≤ x → memByte t.mem x = memByte s.mem x

/-- The outcome `o` of a step from `s` is a next state with the given `pc`, in which the given register and the given bytes of memory have
the given values and nothing else has changed, but for the model's own count of steps. -/
def StepEffect (o : Out) (s : State) (pc : Int) (reg : Option (Reg × Nat)) (store : Option (Nat × Nat × Nat)) : Prop :=
  ∃ t, o = .next t ∧ t.pc = pc ∧ WritesOnly s t reg ∧ StoresOnly s t store ∧
    t.prog = s.prog ∧ t.status = s.status ∧ t.cfg = s.cfg ∧ t.steps = s.steps + 1

end Sys2Proof.Machine
end

