-- ==== Sys2Proof/Certificates/Slice0/Obligations.lean ====
section
/-! DEFINITION. The statements for the provers. A docstring names the rule a statement formalises, or the decision of the spec or the log
entry it rests on. -/

open Sys2Proof Sys2Proof.Machine

/-- Words of the spec's examples decode to the instructions they stand for. Words of `95_test_vectors.md` and what they decode to. -/
def Obligations.SpecExampleWordsDecode : Prop :=
  decode .source .source 0xffffffff00000107#64 none = .ok (.add64K .r1 0xffffffff#32) ∧
  decode .source .source 0x000000000000210c#64 none = .ok (.add32X .r1 .r2) ∧
  decode .source .source 0x00000010000000dc#64 none = .ok (.be16 .r0) ∧
  decode .source .source 0x00000000fffd0155#64 none = .ok (.jneK .r1 0#32 0xfffd#16) ∧
  decode .source .source 0x0000000700000085#64 none = .ok (.call 7#32) ∧
  decode .source .source 0x00000000fff8a061#64 none = .ok (.ldxw .r0 .r10 0xfff8#16) ∧
  decode .source .source 0x00000001fff82adb#64 none = .ok (.atomicFetchAdd64 .r10 .r2 0xfff8#16) ∧
  decode .source .source 0x0000000000000618#64 (some 0x1122334455667788#64) = .ok (.ldImm64 .r6 0x1122334455667788#64)

/-- An instruction word is its five fields at their bit ranges. R61. -/
def Obligations.WordIsItsFieldsInPlace : Prop :=
  (∀ f : Fields, (packFields f).toNat =
      f.imm.toNat * 2 ^ 32 + f.off.toNat * 2 ^ 16 + f.src.toNat * 2 ^ 12 + f.dst.toNat * 2 ^ 8 + f.op.toNat) ∧
  ∀ w : Word, w.toNat = (fieldsOf w).imm.toNat * 2 ^ 32 + (fieldsOf w).off.toNat * 2 ^ 16 +
      (fieldsOf w).src.toNat * 2 ^ 12 + (fieldsOf w).dst.toNat * 2 ^ 8 + (fieldsOf w).op.toNat

/-- Decoding the encoding of any well-formed instruction gives it back. Every instruction of the table, every operand value; the length is right too, since the words left over are those after it. -/
def Obligations.DecodeInvertsEncode : Prop :=
  ∀ (neg : NegReading) (form : Imm64Form) (i : Instr) (rest : List Word), i.wellFormed neg = true →
    decodeWords neg form (encode form i ++ rest) = some (.ok (i, rest))

/-- Encoding what was decoded gives the words back, and what is decoded is well formed. No bit of an accepted word is ignored: an unused field is zero, a selector is one of the legal ones. -/
def Obligations.EncodeInvertsDecode : Prop :=
  ∀ (neg : NegReading) (form : Imm64Form) (ws : List Word) (i : Instr) (rest : List Word),
    decodeWords neg form ws = some (.ok (i, rest)) → i.wellFormed neg = true ∧ encode form i ++ rest = ws

/-- An instruction is one word long, but for the 64-bit immediate load, which is two. R60. -/
def Obligations.OnlyTheWideLoadTakesTwoWords : Prop :=
  ∀ (form : Imm64Form) (i : Instr),
    ((encode form i).length = 1 ∨ (encode form i).length = 2) ∧
    ((encode form i).length = 2 ↔ ∃ dst v, i = .ldImm64 dst v) ∧
    ((encode form i).length = 2 ↔ (fieldsOf (firstWord form i)).op = 0x18#8)

/-- Exactly the 132 reserved opcode bytes are never an instruction. The reserved bytes are computed from class, code, mode and size (`reservedOpcode`), not read off the opcode map. Decision D14 of the spec (log entry 32). -/
def Obligations.ReservedOpcodeBytesAreIllegal : Prop :=
  (∀ (neg : NegReading) (form : Imm64Form) (w : Word) (next : Option Word),
    reservedOpcode (fieldsOf w).op = true → decode neg form w next = .error .illegal) ∧
  (∀ op : BitVec 8, reservedOpcode op = false →
    ∃ w i, (fieldsOf w).op = op ∧ decode .source .source w (some 0#64) = .ok i) ∧
  ((List.range 256).filter fun n => reservedOpcode (BitVec.ofNat 8 n)).length = 132

/-- The imm field of an atomic instruction selects one of exactly ten operations. Decision D20 of the spec, log entry 32: that any other `imm` is illegal and that the whole field is tested is the spec's own decision. `src = R10` in the forms that only read `src` is covered by DecodeInvertsEncode. -/
def Obligations.AtomicSelectorsAreTheTen : Prop :=
  (∀ (neg : NegReading) (form : Imm64Form) (w : Word) (next : Option Word),
    (fieldsOf w).op = 0xc3#8 ∨ (fieldsOf w).op = 0xdb#8 →
    (fieldsOf w).imm ∉ [0x00#32, 0x01#32, 0x40#32, 0x41#32, 0x50#32, 0x51#32, 0xa0#32, 0xa1#32, 0xe1#32, 0xf1#32] →
    decode neg form w next = .error .illegal) ∧
  ∀ (neg : NegReading) (form : Imm64Form) (next : Option Word) (dst src : Reg) (off : BitVec 16), src ≠ .r10 →
    let word (op : BitVec 8) (imm : BitVec 32) : Word := basicWord op (regField dst) (regField src) off imm
    decode neg form (word 0xc3#8 0x00#32) next = .ok (.atomicAdd32 dst src off) ∧
    decode neg form (word 0xc3#8 0x01#32) next = .ok (.atomicFetchAdd32 dst src off) ∧
    decode neg form (word 0xc3#8 0x40#32) next = .ok (.atomicOr32 dst src off) ∧
    decode neg form (word 0xc3#8 0x41#32) next = .ok (.atomicFetchOr32 dst src off) ∧
    decode neg form (word 0xc3#8 0x50#32) next = .ok (.atomicAnd32 dst src off) ∧
    decode neg form (word 0xc3#8 0x51#32) next = .ok (.atomicFetchAnd32 dst src off) ∧
    decode neg form (word 0xc3#8 0xa0#32) next = .ok (.atomicXor32 dst src off) ∧
    decode neg form (word 0xc3#8 0xa1#32) next = .ok (.atomicFetchXor32 dst src off) ∧
    decode neg form (word 0xc3#8 0xe1#32) next = .ok (.atomicXchg32 dst src off) ∧
    decode neg form (word 0xc3#8 0xf1#32) next = .ok (.atomicCmpxchg32 dst src off) ∧
    decode neg form (word 0xdb#8 0x00#32) next = .ok (.atomicAdd64 dst src off) ∧
    decode neg form (word 0xdb#8 0x01#32) next = .ok (.atomicFetchAdd64 dst src off) ∧
    decode neg form (word 0xdb#8 0x40#32) next = .ok (.atomicOr64 dst src off) ∧
    decode neg form (word 0xdb#8 0x41#32) next = .ok (.atomicFetchOr64 dst src off) ∧
    decode neg form (word 0xdb#8 0x50#32) next = .ok (.atomicAnd64 dst src off) ∧
    decode neg form (word 0xdb#8 0x51#32) next = .ok (.atomicFetchAnd64 dst src off) ∧
    decode neg form (word 0xdb#8 0xa0#32) next = .ok (.atomicXor64 dst src off) ∧
    decode neg form (word 0xdb#8 0xa1#32) next = .ok (.atomicFetchXor64 dst src off) ∧
    decode neg form (word 0xdb#8 0xe1#32) next = .ok (.atomicXchg64 dst src off) ∧
    decode neg form (word 0xdb#8 0xf1#32) next = .ok (.atomicCmpxchg64 dst src off)

/-- The two named byte layouts read a program's bytes back to its words, and every function of eight bytes is a layout. The layout `opcodeFirst` is PRESUMED in part (log entry 20); the parameter is any function (decision D2 of the spec). -/
def Obligations.ByteLayoutsRoundTrip : Prop :=
  (∀ ws : List Word, programOfBytes .leastFirst (ws.flatMap bytesLeastFirst) = some ws) ∧
  (∀ ws : List Word, programOfBytes .opcodeFirst (ws.flatMap bytesOpcodeFirst) = some ws) ∧
  ∀ f : Byte → Byte → Byte → Byte → Byte → Byte → Byte → Byte → Word, ∃ layout : InsnLayout,
    ∀ b0 b1 b2 b3 b4 b5 b6 b7, wordOfBytes layout b0 b1 b2 b3 b4 b5 b6 b7 = f b0 b1 b2 b3 b4 b5 b6 b7

/-- A step runs the instruction decoded at the program counter, and nothing else. The link from the statements about `exec` to runs: `step` adds nothing around `exec`. -/
def Obligations.StepRunsDecodedInstruction : Prop :=
  ∀ (s : State) (k : Nat) (w : Word) (i : Instr), s.status = .running → s.pc = (k : Int) → s.prog[k]? = some w →
    isSecondSlot s.prog k = false → decode s.cfg.negReading s.cfg.imm64Form w s.prog[k + 1]? = .ok i →
    step s = exec i s

/-- What a fetch that gives no instruction raises. Decisions D3, D14, D28, D33 of the spec (log entries 1, 32, 34). -/
def Obligations.FetchFaults : Prop :=
  ∀ s : State, s.status = .running →
    (s.pc < 0 ∨ (s.prog.length : Int) ≤ s.pc → step s = .fault (.pcOutOfRange s.pc)) ∧
    ∀ (k : Nat) (w : Word), s.pc = (k : Int) → s.prog[k]? = some w →
      (isSecondSlot s.prog k = true → step s = .fault (.jumpIntoWide s.pc)) ∧
      (isSecondSlot s.prog k = false → decode s.cfg.negReading s.cfg.imm64Form w s.prog[k + 1]? = .error .illegal →
        step s = .fault (.illegalInstruction s.pc w)) ∧
      (isSecondSlot s.prog k = false → k + 1 = s.prog.length →
        (∃ w2 i, decode s.cfg.negReading s.cfg.imm64Form w (some w2) = .ok i ∧ isWideWord w = true) →
        step s = .fault (.truncatedWide s.pc))

/-- The second slots of wide instructions are those a scan from slot 0 finds. Decision D33 of the spec (log entry 36). -/
def Obligations.SecondSlotsAreFoundByScanning : Prop :=
  ∀ (prog : List Word), isSecondSlot prog 0 = false ∧
    ∀ (k : Nat) (w w2 : Word), prog[k]? = some w → prog[k + 1]? = some w2 →
      isSecondSlot prog (k + 1) = (!isSecondSlot prog k && isWideWord w)

/-- A run that has exited, faulted or been refused has no successor. That no successor is the fault `notRunning` is the model's choice (log entry 15). -/
def Obligations.EndedRunHasNoSuccessor : Prop :=
  ∀ s : State, s.status ≠ .running → step s = .fault .notRunning

/-- After a fault or refusal registers, memory and pc are those before the step, and the record is kept. Decision D27 of the spec (log entries 16 and 17). -/
def Obligations.SettledFaultKeepsTheState : Prop :=
  (∀ (s : State) (f : Fault), step s = .fault f →
    s.settle (step s) = { s with status := .faulted f } ∧ step (s.settle (step s)) = .fault .notRunning) ∧
  ∀ (s : State) (r : Refusal), step s = .refused r →
    s.settle (step s) = { s with status := .refused r } ∧ step (s.settle (step s)) = .fault .notRunning

/-- The state at entry: pc 0, R10 the frame pointer, arguments written, the rest unwritten. Decision D31 of the spec. What an unwritten register stores is the model's (log entry 4) and not stated. -/
def Obligations.LaunchState : Prop :=
  ∀ (cfg : Config) (prog : List Word) (mem : List Host.Cell),
    let s := State.launch cfg prog mem
    s.pc = 0 ∧ s.status = .running ∧ (∀ k, s.value k .r10 = cfg.fpInit) ∧ s.prog = prog ∧ s.mem = mem ∧ s.cfg = cfg ∧
    (∀ p ∈ [(Reg.r1, cfg.entryArgs.r1), (.r2, cfg.entryArgs.r2), (.r3, cfg.entryArgs.r3), (.r4, cfg.entryArgs.r4),
        (.r5, cfg.entryArgs.r5)],
      s.isWritten p.1 = p.2.isSome ∧ ∀ v k, p.2 = some v → s.value k p.1 = v) ∧
    ∀ r ∈ [Reg.r0, .r6, .r7, .r8, .r9], s.isWritten r = false

/-- The reset state meets the invariant. The first half of the invariant is the model's canonical form of memory (log entry 7), the second is R10 at `FP_INIT`. -/
def Obligations.ResetMeetsInvariant : Prop :=
  State.reset.Inv ∧
  ∀ (cfg : Config) (prog : List Word) (mem : List Host.Cell), Memory.wf mem = true → (State.launch cfg prog mem).Inv

/-- Every step keeps memory canonical and R10 at FP_INIT. R10 holds `FP_INIT` for the whole run; the canonical form of memory is the model's (log entry 7). -/
def Obligations.StepKeepsInvariant : Prop :=
  ∀ s t : State, s.Inv → step s = .next t → t.Inv

/-- No step changes the program text or the configuration, and each completed step is counted once. Program text is immutable (decision D26) and the configuration is no state of the spec's (log entry 2); the count of steps is the model's own (log entry 23). -/
def Obligations.StepKeepsProgramAndConfiguration : Prop :=
  ∀ s t : State, step s = .next t → t.prog = s.prog ∧ t.cfg = s.cfg ∧ t.steps = s.steps + 1

/-- An instruction leaves every register it does not write. The register frame of all 140 instructions at once, by the table of R35. -/
def Obligations.RegisterFrame : Prop :=
  ∀ (i : Instr) (s t : State) (r : Reg), exec i s = .next t → r ∉ writtenRegs i ∨ r = .r10 →
    t.regs.get r = s.regs.get r ∧ t.isWritten r = s.isWritten r

/-- An instruction leaves every byte of memory it does not store to. The memory frame of all instructions but `call`, by the address each computes (`storeSpan`). -/
def Obligations.MemoryFrame : Prop :=
  ∀ (i : Instr) (s t : State), exec i s = .next t → (∀ imm, i ≠ .call imm) →
    match storeSpan i s with
    | some (a, n) => a.toNat + n ≤ 2 ^ 64 ∧ ∀ x, x < a.toNat ∨ a.toNat + n ≤ x → memByte t.mem x = memByte s.mem x
    | none => ∀ x, memByte t.mem x = memByte s.mem x

/-- A called function changes only bytes that an admitted write or atomic access covers. That stores outside admitted memory do not take place is a premise of the spec on the functions, built into the model (log entry 12). -/
def Obligations.CallMemoryFrame : Prop :=
  ∀ (imm : BitVec 32) (s t : State) (x : Nat), exec (.call imm) s = .next t →
    (∀ (a : Nat) (z : Size), a ≤ x → x < a + sizeBytes z →
      admits s.cfg .write a (sizeBytes z) = false ∧ admits s.cfg .atomic a (sizeBytes z) = false) →
    memByte t.mem x = memByte s.mem x

/-- Only exit ends a run normally; every other instruction leaves it running. A run ends normally in no other way than by `exit`; where the status is held is the model's choice (log entry 14). -/
def Obligations.OnlyExitEndsARunNormally : Prop :=
  ∀ (i : Instr) (s t : State), exec i s = .next t → i ≠ .exit → t.status = s.status

/-- How each instruction moves the program counter. Decisions D6 and D7 of the spec (log entry 30); that `pc` stays at `exit` is the model's (log entry 14). -/
def Obligations.ProgramCounterAdvance : Prop :=
  ∀ (i : Instr) (s t : State), exec i s = .next t →
    (i ≠ .exit ∧ t.pc = s.pc + ((encode s.cfg.imm64Form i).length : Int)) ∨
    (∃ off, jumpOffset i = some off ∧ t.pc = s.pc + 1 + off.toInt) ∨
    (i = .exit ∧ t.pc = s.pc)

/-- An instruction is refused only as the spec says. The list of refusals is decision D27 of the spec; decisions D11, D15 and D22 say what each is (log entries 3 and 33). -/
def Obligations.RefusalsAreTheSpecs : Prop :=
  ∀ (i : Instr) (s : State) (r : Refusal), exec i s = .refused r →
    (r = .legacyPacketAccess ∧ ∃ size rest, i = .ldAbs size rest ∨ i = .ldInd size rest) ∨
    (∃ imm, r = .unknownCall imm ∧ i = .call imm ∧ findFn imm s.cfg.callTable = none) ∨
    (r = .shiftCount ∧ s.cfg.shiftPolicy = .refuse ∧ ∃ (d : Reg) (o : Operand),
      (64 ≤ srcNat64 s o ∧
        (i = aluForm .lsh64K .lsh64X d o ∨ i = aluForm .rsh64K .rsh64X d o ∨ i = aluForm .arsh64K .arsh64X d o)) ∨
      (32 ≤ srcNat32 s o ∧
        (i = aluForm .lsh32K .lsh32X d o ∨ i = aluForm .rsh32K .rsh32X d o ∨ i = aluForm .arsh32K .arsh32X d o)))

/-- An instruction faults only as the spec says, with the information the spec records. The list of faults is decision D27 of the spec, with D23, D24, D28 and D32 (log entries 5, 34 and 35); arithmetic raises none of its own. The word of an instruction without encoding is the model's (log entry 18). -/
def Obligations.FaultsAreTheSpecs : Prop :=
  ∀ (i : Instr) (s : State) (f : Fault), exec i s = .fault f →
    (i.wellFormed s.cfg.negReading = false ∧ f = .illegalInstruction s.pc (firstWord s.cfg.imm64Form i)) ∨
    (i.wellFormed s.cfg.negReading = true ∧
      ((∃ r, f = .uninitRegister s.pc r ∧ s.isWritten r = false ∧ s.cfg.unwrittenRead = .fault ∧
          ((readRegList s.cfg.negReading i).find? (fun q => !s.readable q) = some r ∨
            ∃ imm fn, i = .call imm ∧ findFn imm s.cfg.callTable = some fn ∧
              (argRegs fn).find? (fun q => !s.readable q) = some r)) ∨
        ((∀ r ∈ readRegList s.cfg.negReading i, s.readable r = true) ∧
          ∃ kind b off z, accessForm i = some (kind, b, off, z) ∧
            let a := effectiveAddress (s.value 0 b) off
            (aligned s.cfg kind a.toNat (sizeBytes z) = false ∧ f = .misalignedAccess s.pc a (sizeBytes z)) ∨
            (aligned s.cfg kind a.toNat (sizeBytes z) = true ∧ admits s.cfg kind a.toNat (sizeBytes z) = false ∧
              f = .memoryFault s.pc a (sizeBytes z) kind))))

/-- An instruction that would write R10, or has no encoding, raises IllegalInstruction before anything else. Decisions D5, D12 and D28 of the spec; the word reported is the model's encoding of the instruction (log entry 18). -/
def Obligations.WritingR10IsIllegal : Prop :=
  (∀ (i : Instr) (s : State), i.wellFormed s.cfg.negReading = false →
    exec i s = .fault (.illegalInstruction s.pc (firstWord s.cfg.imm64Form i))) ∧
  (∀ (i : Instr) (neg : NegReading), Reg.r10 ∈ writtenRegs i → i.wellFormed neg = false)

/-- In a launch that asks for it, the first unwritten register an instruction reads is reported. Decision D32 of the spec; that fault or draw is a parameter of the launch is the model's choice (log entry 5). -/
def Obligations.UnwrittenOperandFaults : Prop :=
  ∀ (i : Instr) (s : State) (r : Reg), i.wellFormed s.cfg.negReading = true →
    (readRegList s.cfg.negReading i).find? (fun q => !s.readable q) = some r →
    exec i s = .fault (.uninitRegister s.pc r)

/-- In a launch that draws, no instruction raises UninitRegister, and the two operands of a subtraction are drawn apart. One of the two treatments the spec admits; that it is a parameter of the launch, and what indexes the draws, is the model's choice (log entries 5 and 6). The values drawn are free and nothing here rests on them. -/
def Obligations.UnwrittenRegistersAreDrawnOtherwise : Prop :=
  ∀ s : State, s.cfg.unwrittenRead = .draw →
    (∀ (i : Instr) (p : Int) (r : Reg), exec i s ≠ .fault (.uninitRegister p r)) ∧
    ∀ d r : Reg, d ≠ .r10 →
      let got (read : Nat) (q : Reg) : Nat :=
        if s.isWritten q then (s.regs.get q).toNat else (Config.unwrittenReg s.steps read (regNumber q)).toNat
      StepEffect (exec (.sub64X d r) s) s (s.pc + 1) (some (d, (got 0 d + 2 ^ 64 - got 1 r) % 2 ^ 64)) none

/-- 64-bit add, sub, mul, or, and, xor with an immediate or a register. Decision D8 of the spec widens the immediate (log entry 29). -/
def Obligations.Alu64Results : Prop :=
  ∀ (s : State) (d : Reg) (o : Operand), d ≠ .r10 → s.readable d = true → srcReadable s o →
    let D := (s.value 0 d).toNat
    let S := srcNat64 s o
    let does (i : Instr) (v : Nat) : Prop := StepEffect (exec i s) s (s.pc + 1) (some (d, v)) none
    does (aluForm .add64K .add64X d o) ((D + S) % 2 ^ 64) ∧
    does (aluForm .sub64K .sub64X d o) ((D + 2 ^ 64 - S) % 2 ^ 64) ∧
    does (aluForm .mul64K .mul64X d o) (D * S % 2 ^ 64) ∧
    does (aluForm .or64K .or64X d o) (D ||| S) ∧
    does (aluForm .and64K .and64X d o) (D &&& S) ∧
    does (aluForm .xor64K .xor64X d o) (D ^^^ S)

/-- 64-bit division is unsigned, and gives 0 for a zero divisor. R104. -/
def Obligations.Division64IsUnsignedAndTotal : Prop :=
  ∀ (s : State) (d : Reg) (o : Operand) (form : Imm64Form), d ≠ .r10 → s.readable d = true → srcReadable s o →
    let D := (s.value 0 d).toNat
    let S := srcNat64 s o
    StepEffect (exec (aluForm .div64K .div64X d o) s) s (s.pc + 1) (some (d, if S ≠ 0 then D / S else 0)) none ∧
    (fieldsOf (firstWord form (aluForm .div64K .div64X d o))).op = (match o with | .imm _ => 0x37#8 | .reg _ => 0x3f#8)

/-- 64-bit modulo is unsigned, and leaves the destination for a zero divisor. R110. -/
def Obligations.Modulo64IsUnsignedAndTotal : Prop :=
  ∀ (s : State) (d : Reg) (o : Operand) (form : Imm64Form), d ≠ .r10 → s.readable d = true → srcReadable s o →
    let D := (s.value 0 d).toNat
    let S := srcNat64 s o
    StepEffect (exec (aluForm .mod64K .mod64X d o) s) s (s.pc + 1) (some (d, if S ≠ 0 then D - D / S * S else D)) none ∧
    (S ≠ 0 → D - D / S * S < S) ∧
    (fieldsOf (firstWord form (aluForm .mod64K .mod64X d o))).op = (match o with | .imm _ => 0x97#8 | .reg _ => 0x9f#8)

/-- 64-bit shifts left, right and right with the sign, under either shift policy. Decisions D8 and D11 of the spec (log entries 3 and 29). -/
def Obligations.Shift64Results : Prop :=
  ∀ (s : State) (d : Reg) (o : Operand), d ≠ .r10 → s.readable d = true → srcReadable s o →
    let D := (s.value 0 d).toNat
    let S := srcNat64 s o
    let does (i : Instr) (v : Nat) : Prop := StepEffect (exec i s) s (s.pc + 1) (some (d, v)) none
    let lsh := aluForm .lsh64K .lsh64X d o
    let rsh := aluForm .rsh64K .rsh64X d o
    let arsh := aluForm .arsh64K .arsh64X d o
    (∀ n, (s.cfg.shiftPolicy = .mask ∧ n = S % 64) ∨ (s.cfg.shiftPolicy = .refuse ∧ n = S ∧ S < 64) →
      does lsh (D * 2 ^ n % 2 ^ 64) ∧ does rsh (D / 2 ^ n) ∧ does arsh (signedNat 64 D / 2 ^ n % 2 ^ 64).toNat) ∧
    (s.cfg.shiftPolicy = .refuse → 64 ≤ S →
      exec lsh s = .refused .shiftCount ∧ exec rsh s = .refused .shiftCount ∧ exec arsh s = .refused .shiftCount)

/-- BPF_NEG at 64 bits under both readings. Decision D12 of the spec (log entry 3). -/
def Obligations.Neg64Results : Prop :=
  ∀ (s : State) (d : Reg), d ≠ .r10 →
    (∀ o, s.cfg.negReading = .source → srcReadable s o →
      StepEffect (exec (aluForm .neg64K .neg64X d o) s) s (s.pc + 1) (some (d, 2 ^ 64 - 1 - srcNat64 s o)) none) ∧
    (s.cfg.negReading = .negateDst → s.readable d = true →
      StepEffect (exec (.neg64K d 0#32) s) s (s.pc + 1) (some (d, (2 ^ 64 - (s.value 0 d).toNat) % 2 ^ 64)) none ∧
      ∀ r, exec (.neg64X d r) s =
        .fault (.illegalInstruction s.pc (firstWord s.cfg.imm64Form (.neg64X d r))))

/-- 32-bit add, sub, mul, div, mod, or, and, xor with an immediate or a register. Decision D10 of the spec (log entry 31); conflict C2 on modulo by zero. -/
def Obligations.Alu32Results : Prop :=
  ∀ (s : State) (d : Reg) (o : Operand), d ≠ .r10 → s.readable d = true → srcReadable s o →
    let D := (s.value 0 d).toNat % 2 ^ 32
    let S := srcNat32 s o
    let does (i : Instr) (v : Nat) : Prop := StepEffect (exec i s) s (s.pc + 1) (some (d, v)) none
    does (aluForm .add32K .add32X d o) ((D + S) % 2 ^ 32) ∧
    does (aluForm .sub32K .sub32X d o) ((D + 2 ^ 32 - S) % 2 ^ 32) ∧
    does (aluForm .mul32K .mul32X d o) (D * S % 2 ^ 32) ∧
    does (aluForm .div32K .div32X d o) (if S ≠ 0 then D / S else 0) ∧
    does (aluForm .mod32K .mod32X d o) (if S ≠ 0 then D % S else D) ∧
    does (aluForm .or32K .or32X d o) (D ||| S) ∧
    does (aluForm .and32K .and32X d o) (D &&& S) ∧
    does (aluForm .xor32K .xor32X d o) (D ^^^ S)

/-- 32-bit shifts left, right and right with the sign, under either shift policy. Decisions D10 and D11 of the spec (log entries 3 and 31). -/
def Obligations.Shift32Results : Prop :=
  ∀ (s : State) (d : Reg) (o : Operand), d ≠ .r10 → s.readable d = true → srcReadable s o →
    let D := (s.value 0 d).toNat % 2 ^ 32
    let S := srcNat32 s o
    let does (i : Instr) (v : Nat) : Prop := StepEffect (exec i s) s (s.pc + 1) (some (d, v)) none
    let lsh := aluForm .lsh32K .lsh32X d o
    let rsh := aluForm .rsh32K .rsh32X d o
    let arsh := aluForm .arsh32K .arsh32X d o
    (∀ n, (s.cfg.shiftPolicy = .mask ∧ n = S % 32) ∨ (s.cfg.shiftPolicy = .refuse ∧ n = S ∧ S < 32) →
      does lsh (D * 2 ^ n % 2 ^ 32) ∧ does rsh (D / 2 ^ n) ∧ does arsh (signedNat 32 D / 2 ^ n % 2 ^ 32).toNat) ∧
    (s.cfg.shiftPolicy = .refuse → 32 ≤ S →
      exec lsh s = .refused .shiftCount ∧ exec rsh s = .refused .shiftCount ∧ exec arsh s = .refused .shiftCount)

/-- BPF_NEG at 32 bits under both readings. Decisions D10 and D12 of the spec (log entry 3). -/
def Obligations.Neg32Results : Prop :=
  ∀ (s : State) (d : Reg), d ≠ .r10 →
    (∀ o, s.cfg.negReading = .source → srcReadable s o →
      StepEffect (exec (aluForm .neg32K .neg32X d o) s) s (s.pc + 1) (some (d, 2 ^ 32 - 1 - srcNat32 s o)) none) ∧
    (s.cfg.negReading = .negateDst → s.readable d = true →
      StepEffect (exec (.neg32K d 0#32) s) s (s.pc + 1) (some (d, (2 ^ 32 - (s.value 0 d).toNat % 2 ^ 32) % 2 ^ 32)) none ∧
      ∀ r, exec (.neg32X d r) s =
        .fault (.illegalInstruction s.pc (firstWord s.cfg.imm64Form (.neg32X d r))))

/-- Moves at 64 and 32 bits and the 64-bit immediate load. Decisions D8, D10 and D21 of the spec (log entries 3, 29 and 31). -/
def Obligations.MoveResults : Prop :=
  ∀ (s : State) (d : Reg), d ≠ .r10 →
    (∀ o, srcReadable s o →
      StepEffect (exec (aluForm .mov64K .mov64X d o) s) s (s.pc + 1) (some (d, srcNat64 s o)) none ∧
      StepEffect (exec (aluForm .mov32K .mov32X d o) s) s (s.pc + 1) (some (d, srcNat32 s o)) none) ∧
    ∀ v : Word, StepEffect (exec (.ldImm64 d v) s) s (s.pc + 2) (some (d, v.toNat)) none

/-- Conversion to little and big endian at 16, 32 and 64 bits on either host. Decision D13 of the spec (log entry 31). The swapped value is written as a number: byte `k` goes to place `n - 1 - k`. -/
def Obligations.ByteSwapResults : Prop :=
  ∀ (s : State) (d : Reg), d ≠ .r10 → s.readable d = true →
    let v := (s.value 0 d).toNat
    let keep (n : Nat) : Nat := v % 256 ^ n
    let swap (n : Nat) : Nat := ((List.range n).map fun k => v / 256 ^ k % 256 * 256 ^ (n - 1 - k)).sum
    let does (i : Instr) (r : Nat) : Prop := StepEffect (exec i s) s (s.pc + 1) (some (d, r)) none
    (s.cfg.hostEndian = .little →
      does (.le16 d) (keep 2) ∧ does (.le32 d) (keep 4) ∧ does (.le64 d) v ∧
      does (.be16 d) (swap 2) ∧ does (.be32 d) (swap 4) ∧ does (.be64 d) (swap 8)) ∧
    (s.cfg.hostEndian = .big →
      does (.le16 d) (swap 2) ∧ does (.le32 d) (swap 4) ∧ does (.le64 d) (swap 8) ∧
      does (.be16 d) (keep 2) ∧ does (.be32 d) (keep 4) ∧ does (.be64 d) v)

/-- Reversing the bytes of a value twice gives its low bits back. A byte reversal is its own inverse. -/
def Obligations.SwappingTwiceRestores : Prop :=
  (∀ (z : Size) (v : Word), swapBytes (sizeBytes z) (swapBytes (sizeBytes z) v) = lowBits z v) ∧
  ∀ v : Word, swapBytes 8 (swapBytes 8 v) = v

/-- ja always jumps. Decisions D6 and D7 of the spec (log entries 1 and 30). -/
def Obligations.UnconditionalJump : Prop :=
  ∀ (s : State) (off : BitVec 16), StepEffect (exec (.ja off) s) s (s.pc + 1 + off.toInt) none none

/-- The eleven 64-bit conditional jumps. Decisions D6, D7 and D9 of the spec (log entries 1, 29 and 30). -/
def Obligations.ConditionalJumps64 : Prop :=
  ∀ (s : State) (d : Reg) (o : Operand) (off : BitVec 16), s.readable d = true → srcReadable s o →
    let D := (s.value 0 d).toNat
    let S := srcNat64 s o
    let does (i : Instr) (c : Prop) : Prop :=
      (c → StepEffect (exec i s) s (s.pc + 1 + off.toInt) none none) ∧ (¬ c → StepEffect (exec i s) s (s.pc + 1) none none)
    does (jumpForm .jeqK .jeqX d off o) (D = S) ∧
    does (jumpForm .jgtK .jgtX d off o) (S < D) ∧
    does (jumpForm .jgeK .jgeX d off o) (S ≤ D) ∧
    does (jumpForm .jsetK .jsetX d off o) (D &&& S ≠ 0) ∧
    does (jumpForm .jneK .jneX d off o) (D ≠ S) ∧
    does (jumpForm .jsgtK .jsgtX d off o) (signedNat 64 S < signedNat 64 D) ∧
    does (jumpForm .jsgeK .jsgeX d off o) (signedNat 64 S ≤ signedNat 64 D) ∧
    does (jumpForm .jltK .jltX d off o) (D < S) ∧
    does (jumpForm .jleK .jleX d off o) (D ≤ S) ∧
    does (jumpForm .jsltK .jsltX d off o) (signedNat 64 D < signedNat 64 S) ∧
    does (jumpForm .jsleK .jsleX d off o) (signedNat 64 D ≤ signedNat 64 S)

/-- The eleven 32-bit conditional jumps. Decisions D6, D7 and D9 of the spec (log entries 1, 29 and 30). -/
def Obligations.ConditionalJumps32 : Prop :=
  ∀ (s : State) (d : Reg) (o : Operand) (off : BitVec 16), s.readable d = true → srcReadable s o →
    let D := (s.value 0 d).toNat % 2 ^ 32
    let S := srcNat32 s o
    let does (i : Instr) (c : Prop) : Prop :=
      (c → StepEffect (exec i s) s (s.pc + 1 + off.toInt) none none) ∧ (¬ c → StepEffect (exec i s) s (s.pc + 1) none none)
    does (jumpForm .jeq32K .jeq32X d off o) (D = S) ∧
    does (jumpForm .jgt32K .jgt32X d off o) (S < D) ∧
    does (jumpForm .jge32K .jge32X d off o) (S ≤ D) ∧
    does (jumpForm .jset32K .jset32X d off o) (D &&& S ≠ 0) ∧
    does (jumpForm .jne32K .jne32X d off o) (D ≠ S) ∧
    does (jumpForm .jsgt32K .jsgt32X d off o) (signedNat 32 S < signedNat 32 D) ∧
    does (jumpForm .jsge32K .jsge32X d off o) (signedNat 32 S ≤ signedNat 32 D) ∧
    does (jumpForm .jlt32K .jlt32X d off o) (D < S) ∧
    does (jumpForm .jle32K .jle32X d off o) (D ≤ S) ∧
    does (jumpForm .jslt32K .jslt32X d off o) (signedNat 32 D < signedNat 32 S) ∧
    does (jumpForm .jsle32K .jsle32X d off o) (signedNat 32 D ≤ signedNat 32 S)

/-- A call of a known function: R0 its result, R1 to R5 unwritten, R6 to R10 kept. Decision D15 of the spec (log entry 33). The outcome is one of the relation the launch gives (log entries 11 and 12). -/
def Obligations.CallCompletes : Prop :=
  ∀ (s : State) (imm : BitVec 32) (f : PlatformFn), findFn imm s.cfg.callTable = some f →
    (∀ r ∈ argRegs f, s.readable r = true) →
    let o := callOutcome s.cfg (s.callSite f ((argRegs f).map (s.value 0))) f
    ∃ t, exec (.call imm) s = .next t ∧ t.pc = s.pc + 1 ∧
      (∀ r ∈ [Reg.r6, .r7, .r8, .r9, .r10], t.regs.get r = s.regs.get r ∧ t.isWritten r = s.isWritten r) ∧
      (∀ r ∈ [Reg.r1, .r2, .r3, .r4, .r5], t.isWritten r = false) ∧
      t.isWritten .r0 = o.ret.isSome ∧ (∀ v k, o.ret = some v → t.value k .r0 = v) ∧
      t.mem = callMemory s.cfg s.mem o.stores ∧
      t.prog = s.prog ∧ t.status = s.status ∧ t.cfg = s.cfg ∧ t.steps = s.steps + 1

/-- An unknown function is refused before any register is read; then the arguments are checked from R1 upward. Decisions D15 and D28 of the spec (log entries 33 and 34). -/
def Obligations.CallStops : Prop :=
  ∀ (s : State) (imm : BitVec 32),
    (findFn imm s.cfg.callTable = none → exec (.call imm) s = .refused (.unknownCall imm)) ∧
    ∀ (f : PlatformFn) (r : Reg), findFn imm s.cfg.callTable = some f →
      (argRegs f).find? (fun q => !s.readable q) = some r → exec (.call imm) s = .fault (.uninitRegister s.pc r)

/-- exit ends the run with all 64 bits of R0 as the exit value. Decision D38 of the spec: all 64 bits of R0 are reported. That the exit value is kept in `status` and `pc` stays is the model's choice (log entry 14). -/
def Obligations.ExitReportsAllOfR0 : Prop :=
  ∀ s : State, s.readable .r0 = true →
    ∃ t, exec .exit s = .next t ∧ t.status = .exited (s.value 0 .r0) ∧ (s.isWritten .r0 = true → t.status = .exited (s.regs.get .r0)) ∧
      t.regs = s.regs ∧ t.written = s.written ∧ t.mem = s.mem ∧ t.pc = s.pc ∧ t.prog = s.prog ∧ t.cfg = s.cfg ∧
      t.steps = s.steps + 1

/-- Loads of 4, 2, 1 and 8 bytes, zero extended. Decisions D1, D7 and D17 of the spec (log entries 3, 30 and 31). A byte nothing has written has a free value (log entry 7). -/
def Obligations.LoadResults : Prop :=
  ∀ (s : State) (d b : Reg) (off : BitVec 16), d ≠ .r10 → s.readable b = true →
    let a := (effectiveAddress (s.value 0 b) off).toNat
    let does (i : Instr) (n : Nat) : Prop := aligned s.cfg .read a n = true → admits s.cfg .read a n = true →
      StepEffect (exec i s) s (s.pc + 1) (some (d, loadNat s a n)) none
    does (.ldxw d b off) 4 ∧ does (.ldxh d b off) 2 ∧ does (.ldxb d b off) 1 ∧ does (.ldxdw d b off) 8

/-- Stores of the low 4, 2, 1 or 8 bytes of a register or of the sign-extended immediate. Decisions D1, D7 and D18 of the spec (log entries 3, 29 and 30). -/
def Obligations.StoreResults : Prop :=
  ∀ (s : State) (b : Reg) (off : BitVec 16), s.readable b = true →
    let a := (effectiveAddress (s.value 0 b) off).toNat
    let does (i : Instr) (n v : Nat) : Prop := aligned s.cfg .write a n = true → admits s.cfg .write a n = true →
      StepEffect (exec i s) s (s.pc + 1) none (some (a, n, v))
    (∀ m : BitVec 32, does (.stw b off m) 4 (sextNat m) ∧ does (.sth b off m) 2 (sextNat m) ∧
      does (.stb b off m) 1 (sextNat m) ∧ does (.stdw b off m) 8 (sextNat m)) ∧
    ∀ r : Reg, s.readable r = true →
      does (.stxw b r off) 4 (s.value 1 r).toNat ∧ does (.stxh b r off) 2 (s.value 1 r).toNat ∧
      does (.stxb b r off) 1 (s.value 1 r).toNat ∧ does (.stxdw b r off) 8 (s.value 1 r).toNat

/-- Atomic add, or, and, xor on 4 and 8 bytes. Decisions D7 and D23 of the spec (log entries 30 and 35). -/
def Obligations.AtomicResults : Prop :=
  ∀ (s : State) (b r : Reg) (off : BitVec 16), s.readable b = true → s.readable r = true →
    let a := (effectiveAddress (s.value 0 b) off).toNat
    let does (i : Instr) (n : Nat) (f : Nat → Nat → Nat) : Prop :=
      aligned s.cfg .atomic a n = true → admits s.cfg .atomic a n = true →
      StepEffect (exec i s) s (s.pc + 1) none
        (some (a, n, f (loadNat s a n) ((s.value 1 r).toNat % 2 ^ (8 * n))))
    does (.atomicAdd32 b r off) 4 (fun old v => (old + v) % 2 ^ 32) ∧
    does (.atomicOr32 b r off) 4 (fun old v => old ||| v) ∧
    does (.atomicAnd32 b r off) 4 (fun old v => old &&& v) ∧
    does (.atomicXor32 b r off) 4 (fun old v => old ^^^ v) ∧
    does (.atomicAdd64 b r off) 8 (fun old v => (old + v) % 2 ^ 64) ∧
    does (.atomicOr64 b r off) 8 (fun old v => old ||| v) ∧
    does (.atomicAnd64 b r off) 8 (fun old v => old &&& v) ∧
    does (.atomicXor64 b r off) 8 (fun old v => old ^^^ v)

/-- Atomic operations that return the old value, and exchange, on 4 and 8 bytes. Decisions D7, D19 and D23 of the spec (log entries 30, 31 and 35). -/
def Obligations.AtomicFetchAndExchangeResults : Prop :=
  ∀ (s : State) (b r : Reg) (off : BitVec 16), r ≠ .r10 → s.readable b = true → s.readable r = true →
    let a := (effectiveAddress (s.value 0 b) off).toNat
    let does (i : Instr) (n : Nat) (f : Nat → Nat → Nat) : Prop :=
      aligned s.cfg .atomic a n = true → admits s.cfg .atomic a n = true →
      StepEffect (exec i s) s (s.pc + 1) (some (r, loadNat s a n))
        (some (a, n, f (loadNat s a n) ((s.value 1 r).toNat % 2 ^ (8 * n))))
    does (.atomicFetchAdd32 b r off) 4 (fun old v => (old + v) % 2 ^ 32) ∧
    does (.atomicFetchOr32 b r off) 4 (fun old v => old ||| v) ∧
    does (.atomicFetchAnd32 b r off) 4 (fun old v => old &&& v) ∧
    does (.atomicFetchXor32 b r off) 4 (fun old v => old ^^^ v) ∧
    does (.atomicXchg32 b r off) 4 (fun _ v => v) ∧
    does (.atomicFetchAdd64 b r off) 8 (fun old v => (old + v) % 2 ^ 64) ∧
    does (.atomicFetchOr64 b r off) 8 (fun old v => old ||| v) ∧
    does (.atomicFetchAnd64 b r off) 8 (fun old v => old &&& v) ∧
    does (.atomicFetchXor64 b r off) 8 (fun old v => old ^^^ v) ∧
    does (.atomicXchg64 b r off) 8 (fun _ v => v)

/-- Atomic compare and exchange on 4 and 8 bytes. Decisions D7, D19 and D23 of the spec (log entries 30, 31 and 35); conflict C5. -/
def Obligations.CompareExchangeResults : Prop :=
  ∀ (s : State) (b r : Reg) (off : BitVec 16), s.readable b = true → s.readable r = true → s.readable .r0 = true →
    let a := (effectiveAddress (s.value 0 b) off).toNat
    let does (i : Instr) (n : Nat) : Prop := aligned s.cfg .atomic a n = true → admits s.cfg .atomic a n = true →
      StepEffect (exec i s) s (s.pc + 1) (some (.r0, loadNat s a n))
        (if loadNat s a n = (s.value 2 .r0).toNat % 2 ^ (8 * n) then some (a, n, (s.value 1 r).toNat) else none)
    does (.atomicCmpxchg32 b r off) 4 ∧ does (.atomicCmpxchg64 b r off) 8

/-- A misaligned access faults before an unadmitted one, with address, size and kind, and nothing changed. Decisions D23, D24 and D28 of the spec (log entries 34 and 35). -/
def Obligations.AccessFaultOrder : Prop :=
  ∀ (i : Instr) (s : State) (kind : AccessKind) (b : Reg) (off : BitVec 16) (z : Size),
    accessForm i = some (kind, b, off, z) → i.wellFormed s.cfg.negReading = true →
    (∀ r ∈ readRegList s.cfg.negReading i, s.readable r = true) →
    let a := effectiveAddress (s.value 0 b) off
    (aligned s.cfg kind a.toNat (sizeBytes z) = false → exec i s = .fault (.misalignedAccess s.pc a (sizeBytes z))) ∧
    (aligned s.cfg kind a.toNat (sizeBytes z) = true → admits s.cfg kind a.toNat (sizeBytes z) = false →
      exec i s = .fault (.memoryFault s.pc a (sizeBytes z) kind))

/-- When an address is aligned. Decision D23 of the spec (log entry 35). -/
def Obligations.AlignmentRule : Prop :=
  (∀ (c : Config) (kind : AccessKind) (a n : Nat),
    aligned c kind a n = true ↔ (c.alignPolicy = .any ∧ kind ≠ .atomic) ∨ n ∣ a) ∧
  ∀ (c : Config) (kind : AccessKind) (a : Nat), aligned c kind a 1 = true

/-- When an access is admitted: in the address space, and in the stack or in a region that permits its kind and size. Decisions D24 and D37 of the spec; that the predicate is a list of regions, and where the stack lies, is the model's choice (log entries 8 and 9). -/
def Obligations.AdmissionRule : Prop :=
  ∀ (c : Config) (kind : AccessKind) (a n : Nat), admits c kind a n = true ↔
    a + n ≤ 2 ^ 64 ∧ ((c.fpInit.toNat ≤ a + c.stackSize ∧ a + n ≤ c.fpInit.toNat) ∨
      ∃ g ∈ c.regions, g.base ≤ a ∧ a + n ≤ g.base + g.size ∧ (kind, n) ∈ g.permits)

/-- The effective address is base plus signed offset modulo 2^64. Decisions D7 and D37 of the spec (log entries 30 and 35). -/
def Obligations.EffectiveAddressWraps : Prop :=
  ∀ (base : Word) (off : BitVec 16), ((effectiveAddress base off).toNat : Int) = ((base.toNat : Int) + off.toInt) % 2 ^ 64

/-- Reading what was written gives its low bits, in either byte order. The first law of memory. -/
def Obligations.StoreThenLoadReturnsLowBits : Prop :=
  ∀ (e : Endian) (m : List Host.Cell) (a : Nat) (z : Size) (v : Word),
    memRead e (memWrite e m a (sizeBytes z) v) a (sizeBytes z) = lowBits z v

/-- A narrower read after a wider write sees the low bytes on a little-endian host and the high bytes on a big-endian one. What a mixed-width access sees. -/
def Obligations.NarrowReadAfterWideWrite : Prop :=
  ∀ (m : List Host.Cell) (a n k : Nat) (v : Word), k ≤ n → n ≤ 8 →
    (memRead .little (memWrite .little m a n v) a k).toNat = v.toNat % 256 ^ k ∧
    (memRead .big (memWrite .big m a n v) a k).toNat = v.toNat % 256 ^ n / 256 ^ (n - k)

/-- The legacy packet loads are refused, whatever their fields hold. Decision D22 of the spec: the source gives these instructions no meaning. -/
def Obligations.LegacyPacketLoadsAreRefused : Prop :=
  (∀ (s : State) (size : Size) (rest : BitVec 56),
    exec (.ldAbs size rest) s = .refused .legacyPacketAccess ∧ exec (.ldInd size rest) s = .refused .legacyPacketAccess) ∧
  ∀ (neg : NegReading) (form : Imm64Form) (w : Word) (next : Option Word),
    (fieldsOf w).op ∈ [0x20#8, 0x28#8, 0x30#8, 0x38#8, 0x40#8, 0x48#8, 0x50#8, 0x58#8] →
    ∃ size rest, decode neg form w next = .ok (.ldAbs size rest) ∨ decode neg form w next = .ok (.ldInd size rest)

/-- Every predicate on address, size and kind is a setting of MEM_ADMIT. Decisions D24 and D37 of the spec; the form of the parameter is the model's choice (log entries 8 and 9). -/
def Obligations.EveryAdmissionPredicateIsALaunch : Prop :=
  ∀ P : AccessKind → Nat → Nat → Bool, ∃ regions : List Region,
    ∀ (c : Config) (kind : AccessKind) (a n : Nat), n ∈ [1, 2, 4, 8] →
      (admits { c with regions := regions } kind a n = true ↔
        a + n ≤ 2 ^ 64 ∧ ((c.fpInit.toNat ≤ a + c.stackSize ∧ a + n ≤ c.fpInit.toNat) ∨ P kind a n = true))

/-- The outcome of a call is one that the function's relation admits, and a function of one alternative is computed. Decision D15 of the spec; the form of the relation is the model's (log entry 11). The last clause is the function of the spec's example of `call`. -/
def Obligations.CallOutcomesAreThoseOfTheRelation : Prop :=
  (∀ (c : Config) (site : CallSite) (f : PlatformFn), admittedOutcomes c site f ≠ [] →
    callOutcome c site f ∈ admittedOutcomes c site f) ∧
  (∀ (c : Config) (site : CallSite) (f : PlatformFn) (o : CallOutcome), o ∈ admittedOutcomes c site f ↔
    ∃ alt ∈ f.outcomes, evalFn c site alt.guard ≠ 0#64 ∧ o.ret = alt.ret.map (evalFn c site) ∧
      o.stores = alt.stores.map fun w => (evalFn c site w.addr, w.size, evalFn c site w.value)) ∧
  (∀ (c : Config) (site : CallSite) (key : BitVec 32) (arity : Fin 6) (alt : FnOutcome), evalFn c site alt.guard ≠ 0#64 →
    callOutcome c site { key := key, arity := arity, outcomes := [alt] } = evalOutcome c site alt) ∧
  ∀ (c : Config) (key : BitVec 32) (a b : Word) (m : List Host.Cell) (n : Nat),
    callOutcome c { key := key, args := [a, b], mem := m, steps := n }
      { key := key, arity := 2, outcomes := [{ ret := some (.op .add (.arg 0) (.arg 1)) }] } =
        { ret := some (BitVec.ofNat 64 (a.toNat + b.toNat)), stores := [] }

/-- Every finite relation of arguments, result and stores is a platform function. The form of the relation is the model's (log entry 11). -/
def Obligations.EveryFiniteRelationIsAFunction : Prop :=
  ∀ (arity : Fin 6) (relation : List (List Word × CallOutcome)), ∃ outcomes : List FnOutcome,
    ∀ (c : Config) (site : CallSite) (key : BitVec 32) (o : CallOutcome), site.args.length = arity.val →
      (o ∈ admittedOutcomes c site { key := key, arity := arity, outcomes := outcomes } ↔ (site.args, o) ∈ relation)
end

