-- ==== Sys2Proof/Laws/Decode.lean ====
section
/-! SUPPORT. Packing and taking apart instruction words, register fields, and the keys of the opcode map. -/

namespace Sys2Proof

/-- Each bit of a packed word, by the ranges of `30_encoding.md` R61. -/
theorem getLsbD_packFields (f : Fields) (i : Nat) :
    (packFields f).getLsbD i =
      if i < 8 then f.op.getLsbD i else if i < 12 then f.dst.getLsbD (i - 8) else if i < 16 then f.src.getLsbD (i - 12)
      else if i < 32 then f.off.getLsbD (i - 16) else f.imm.getLsbD (i - 32) := by
  show BitVec.getLsbD (w := 32 + 16 + 4 + 4 + 8) (f.imm ++ f.off ++ f.src ++ f.dst ++ f.op) i = _
  simp only [BitVec.getLsbD_append, Nat.sub_sub]
  split_ifs <;> first | rfl | omega

/-- The fields of a packed word are the fields packed. -/
theorem fieldsOf_packFields (f : Fields) : fieldsOf (packFields f) = f := by
  obtain ⟨op, dst, src, off, imm⟩ := f
  simp only [fieldsOf, Fields.mk.injEq]
  refine ⟨?_, ?_, ?_, ?_, ?_⟩ <;>
    (apply BitVec.eq_of_getLsbD_eq; intro i hi
     simp only [BitVec.getLsbD_extractLsb', getLsbD_packFields, hi, decide_true, Bool.true_and])
  all_goals (repeat (first | rw [if_pos (by omega)] | rw [if_neg (by omega)])); congr 1; omega

/-- A word is its fields packed. -/
theorem packFields_fieldsOf (w : Word) : packFields (fieldsOf w) = w := by
  apply BitVec.eq_of_getLsbD_eq; intro i hi
  rw [getLsbD_packFields]
  simp only [fieldsOf, BitVec.getLsbD_extractLsb']
  split_ifs <;> (rw [decide_eq_true (by omega), Bool.true_and]; congr 1; omega)

/-- A basic word is wide by its opcode byte alone. -/
theorem isWideWord_basicWord (op : BitVec 8) (d s : BitVec 4) (o : BitVec 16) (i : BitVec 32) : isWideWord (basicWord op d s o i) = (op == 0x18#8) := by
  simp [isWideWord, basicWord, fieldsOf_packFields]

/-- The opcode byte of a legacy word. -/
theorem legacy_op (rest : BitVec 56) (op : BitVec 8) : (fieldsOf (rest ++ op)).op = op := by
  apply BitVec.eq_of_getLsbD_eq; intro i hi
  simp only [fieldsOf, BitVec.getLsbD_extractLsb', hi, decide_true, Bool.true_and]
  show BitVec.getLsbD (w := 56 + 8) (rest ++ op) _ = _
  rw [BitVec.getLsbD_append, if_pos (by omega)]; simp

/-- The other bits of a legacy word. -/
theorem legacy_rest (rest : BitVec 56) (op : BitVec 8) : (rest ++ op : Word).extractLsb' 8 56 = rest := by
  apply BitVec.eq_of_getLsbD_eq; intro i hi
  simp only [BitVec.getLsbD_extractLsb', hi, decide_true, Bool.true_and]
  show BitVec.getLsbD (w := 56 + 8) (rest ++ op) _ = _
  rw [BitVec.getLsbD_append, if_neg (by omega)]; congr 1; omega

/-- A word is its upper bits and its opcode byte. -/
theorem legacy_join (w : Word) : (w.extractLsb' 8 56 ++ (fieldsOf w).op : Word) = w := by
  apply BitVec.eq_of_getLsbD_eq; intro i hi
  show BitVec.getLsbD (w := 56 + 8) (w.extractLsb' 8 56 ++ (fieldsOf w).op) i = _
  rw [BitVec.getLsbD_append]
  simp only [fieldsOf, BitVec.getLsbD_extractLsb']
  split_ifs <;> (rw [decide_eq_true (by omega), Bool.true_and]; congr 1; omega)

/-- A register's field names it. -/
@[simp] theorem regOf_regField (r : Reg) : regOf (regField r) = some r := by cases r <;> rfl

/-- A field that names a register is that register's field. -/
theorem regField_of_regOf {b : BitVec 4} {r : Reg} (h : regOf b = some r) : regField r = b := by
  revert b r; decide

set_option maxRecDepth 8000 in
/-- No opcode byte has two entries in the opcode map. -/
theorem opcodeMap_keys_nodup : (opcodeMap.map (·.1)).Nodup := by decide

/-- An entry found in a table is an entry of the table. -/
theorem mem_of_lookup {n : Nat} {α : Type} {k : BitVec n} {a : α} :
    ∀ {l : List (BitVec n × α)}, lookup k l = some a → (k, a) ∈ l
  | (k', a') :: rest, h => by
    simp only [lookup] at h
    split at h
    · cases h; subst_vars; exact List.mem_cons_self
    · exact List.mem_cons_of_mem _ (mem_of_lookup h)

end Sys2Proof
end

