-- ==== Sys2Proof/Laws/State.lean ====
section
/-! SUPPORT. What each state update leaves in each field, and what reading a register after writing one gives. -/

namespace Sys2Proof.Machine

@[simp] theorem State.setReg_regs (s : State) (r : Reg) (v : Word) : (s.setReg r v).regs = s.regs.set r v := rfl
@[simp] theorem State.setReg_written (s : State) (r : Reg) (v : Word) : (s.setReg r v).written = s.written.set r true := rfl
@[simp] theorem State.setReg_pc (s : State) (r : Reg) (v : Word) : (s.setReg r v).pc = s.pc := rfl
@[simp] theorem State.setReg_mem (s : State) (r : Reg) (v : Word) : (s.setReg r v).mem = s.mem := rfl
@[simp] theorem State.setReg_prog (s : State) (r : Reg) (v : Word) : (s.setReg r v).prog = s.prog := rfl
@[simp] theorem State.setReg_status (s : State) (r : Reg) (v : Word) : (s.setReg r v).status = s.status := rfl
@[simp] theorem State.setReg_cfg (s : State) (r : Reg) (v : Word) : (s.setReg r v).cfg = s.cfg := rfl
@[simp] theorem State.setReg_steps (s : State) (r : Reg) (v : Word) : (s.setReg r v).steps = s.steps := rfl

@[simp] theorem State.clearReg_regs (s : State) (r : Reg) : (s.clearReg r).regs = s.regs := rfl
@[simp] theorem State.clearReg_written (s : State) (r : Reg) : (s.clearReg r).written = s.written.set r false := rfl
@[simp] theorem State.clearReg_pc (s : State) (r : Reg) : (s.clearReg r).pc = s.pc := rfl
@[simp] theorem State.clearReg_mem (s : State) (r : Reg) : (s.clearReg r).mem = s.mem := rfl
@[simp] theorem State.clearReg_prog (s : State) (r : Reg) : (s.clearReg r).prog = s.prog := rfl
@[simp] theorem State.clearReg_status (s : State) (r : Reg) : (s.clearReg r).status = s.status := rfl
@[simp] theorem State.clearReg_cfg (s : State) (r : Reg) : (s.clearReg r).cfg = s.cfg := rfl
@[simp] theorem State.clearReg_steps (s : State) (r : Reg) : (s.clearReg r).steps = s.steps := rfl

@[simp] theorem State.advance_regs (s : State) (n : Int) : (s.advance n).regs = s.regs := rfl
@[simp] theorem State.advance_written (s : State) (n : Int) : (s.advance n).written = s.written := rfl
@[simp] theorem State.advance_pc (s : State) (n : Int) : (s.advance n).pc = s.pc + n := rfl
@[simp] theorem State.advance_mem (s : State) (n : Int) : (s.advance n).mem = s.mem := rfl
@[simp] theorem State.advance_prog (s : State) (n : Int) : (s.advance n).prog = s.prog := rfl
@[simp] theorem State.advance_status (s : State) (n : Int) : (s.advance n).status = s.status := rfl
@[simp] theorem State.advance_cfg (s : State) (n : Int) : (s.advance n).cfg = s.cfg := rfl
@[simp] theorem State.advance_steps (s : State) (n : Int) : (s.advance n).steps = s.steps + 1 := rfl

@[simp] theorem State.store_regs (s : State) (a : Word) (z : Size) (v : Word) : (s.store a z v).regs = s.regs := rfl
@[simp] theorem State.store_written (s : State) (a : Word) (z : Size) (v : Word) : (s.store a z v).written = s.written := rfl
@[simp] theorem State.store_pc (s : State) (a : Word) (z : Size) (v : Word) : (s.store a z v).pc = s.pc := rfl
@[simp] theorem State.store_mem (s : State) (a : Word) (z : Size) (v : Word) : (s.store a z v).mem = memWrite s.cfg.hostEndian s.mem a.toNat (sizeBytes z) v := rfl
@[simp] theorem State.store_prog (s : State) (a : Word) (z : Size) (v : Word) : (s.store a z v).prog = s.prog := rfl
@[simp] theorem State.store_status (s : State) (a : Word) (z : Size) (v : Word) : (s.store a z v).status = s.status := rfl
@[simp] theorem State.store_cfg (s : State) (a : Word) (z : Size) (v : Word) : (s.store a z v).cfg = s.cfg := rfl
@[simp] theorem State.store_steps (s : State) (a : Word) (z : Size) (v : Word) : (s.store a z v).steps = s.steps := rfl

@[simp] theorem State.branch_regs (s : State) (b : Bool) (off : BitVec 16) : (s.branch b off).regs = s.regs := rfl
@[simp] theorem State.branch_written (s : State) (b : Bool) (off : BitVec 16) : (s.branch b off).written = s.written := rfl
@[simp] theorem State.branch_pc (s : State) (b : Bool) (off : BitVec 16) : (s.branch b off).pc = if b then jumpTarget s.pc off else s.pc + 1 := rfl
@[simp] theorem State.branch_mem (s : State) (b : Bool) (off : BitVec 16) : (s.branch b off).mem = s.mem := rfl
@[simp] theorem State.branch_prog (s : State) (b : Bool) (off : BitVec 16) : (s.branch b off).prog = s.prog := rfl
@[simp] theorem State.branch_status (s : State) (b : Bool) (off : BitVec 16) : (s.branch b off).status = s.status := rfl
@[simp] theorem State.branch_cfg (s : State) (b : Bool) (off : BitVec 16) : (s.branch b off).cfg = s.cfg := rfl
@[simp] theorem State.branch_steps (s : State) (b : Bool) (off : BitVec 16) : (s.branch b off).steps = s.steps + 1 := rfl

@[simp] theorem State.exited_regs (s : State) (v : Word) : (s.exited v).regs = s.regs := rfl
@[simp] theorem State.exited_written (s : State) (v : Word) : (s.exited v).written = s.written := rfl
@[simp] theorem State.exited_pc (s : State) (v : Word) : (s.exited v).pc = s.pc := rfl
@[simp] theorem State.exited_mem (s : State) (v : Word) : (s.exited v).mem = s.mem := rfl
@[simp] theorem State.exited_prog (s : State) (v : Word) : (s.exited v).prog = s.prog := rfl
@[simp] theorem State.exited_status (s : State) (v : Word) : (s.exited v).status = .exited v := rfl
@[simp] theorem State.exited_cfg (s : State) (v : Word) : (s.exited v).cfg = s.cfg := rfl
@[simp] theorem State.exited_steps (s : State) (v : Word) : (s.exited v).steps = s.steps + 1 := rfl

theorem State.finish_eq (s : State) (r : Reg) (v : Word) : s.finish r v = (s.setReg r v).advance 1 := rfl

theorem RegFile.get_set_self {r : Reg} (h : r ≠ .r10) (f : RegFile) (v : Word) : (f.set r v).get r = v := by
  cases r <;> first | rfl | exact absurd rfl h

theorem RegFile.get_set_ne {r q : Reg} (h : q ≠ r) (f : RegFile) (v : Word) : (f.set r v).get q = f.get q := by
  cases r <;> cases q <;> first | rfl | exact absurd rfl h

@[simp] theorem RegFile.get_r10_set (f : RegFile) (r : Reg) (v : Word) : (f.set r v).get .r10 = f.get .r10 := by
  cases r <;> rfl

theorem Marks.get_set_self {r : Reg} (h : r ≠ .r10) (m : Marks) (b : Bool) : (m.set r b).get r = b := by
  cases r <;> first | rfl | exact absurd rfl h

theorem Marks.get_set_ne {r q : Reg} (h : q ≠ r) (m : Marks) (b : Bool) : (m.set r b).get q = m.get q := by
  cases r <;> cases q <;> first | rfl | exact absurd rfl h

@[simp] theorem Marks.get_r10 (m : Marks) : m.get .r10 = true := rfl

@[simp] theorem State.setResult_pc (s : State) (ret : Option Word) : (s.setResult ret).pc = s.pc := by cases ret <;> rfl
@[simp] theorem State.setResult_mem (s : State) (ret : Option Word) : (s.setResult ret).mem = s.mem := by cases ret <;> rfl
@[simp] theorem State.setResult_prog (s : State) (ret : Option Word) : (s.setResult ret).prog = s.prog := by cases ret <;> rfl
@[simp] theorem State.setResult_status (s : State) (ret : Option Word) : (s.setResult ret).status = s.status := by cases ret <;> rfl
@[simp] theorem State.setResult_cfg (s : State) (ret : Option Word) : (s.setResult ret).cfg = s.cfg := by cases ret <;> rfl
@[simp] theorem State.setResult_steps (s : State) (ret : Option Word) : (s.setResult ret).steps = s.steps := by cases ret <;> rfl

@[simp] theorem State.setResult_some (s : State) (v : Word) : s.setResult (some v) = s.setReg .r0 v := rfl
@[simp] theorem State.setResult_none (s : State) : s.setResult none = s.clearReg .r0 := rfl

/-- A result changes no register's content or mark but those of R0. -/
theorem State.setResult_frame {q : Reg} (h : q ≠ .r0) (s : State) (ret : Option Word) :
    (s.setResult ret).regs.get q = s.regs.get q ∧ (s.setResult ret).isWritten q = s.isWritten q := by
  cases ret
  · exact ⟨rfl, Marks.get_set_ne h _ _⟩
  · exact ⟨RegFile.get_set_ne h _ _, Marks.get_set_ne h _ _⟩

@[simp] theorem State.clearScratch_regs (s : State) : (s.clearScratch).regs = s.regs := rfl
@[simp] theorem State.clearScratch_pc (s : State) : (s.clearScratch).pc = s.pc := rfl
@[simp] theorem State.clearScratch_mem (s : State) : (s.clearScratch).mem = s.mem := rfl
@[simp] theorem State.clearScratch_prog (s : State) : (s.clearScratch).prog = s.prog := rfl
@[simp] theorem State.clearScratch_status (s : State) : (s.clearScratch).status = s.status := rfl
@[simp] theorem State.clearScratch_cfg (s : State) : (s.clearScratch).cfg = s.cfg := rfl
@[simp] theorem State.clearScratch_steps (s : State) : (s.clearScratch).steps = s.steps := rfl

/-- What is unwritten after a call, R0 apart: R1 to R5. -/
theorem State.clearScratch_isWritten (s : State) (q : Reg) :
    s.clearScratch.isWritten q = (!([Reg.r1, .r2, .r3, .r4, .r5].contains q) && s.isWritten q) := by
  cases q <;> rfl

@[simp] theorem State.afterCall_pc (s : State) (o : CallOutcome) : (s.afterCall o).pc = s.pc + 1 := by simp [State.afterCall]
@[simp] theorem State.afterCall_mem (s : State) (o : CallOutcome) : (s.afterCall o).mem = callMemory s.cfg s.mem o.stores := by simp [State.afterCall]
@[simp] theorem State.afterCall_prog (s : State) (o : CallOutcome) : (s.afterCall o).prog = s.prog := by simp [State.afterCall]
@[simp] theorem State.afterCall_status (s : State) (o : CallOutcome) : (s.afterCall o).status = s.status := by simp [State.afterCall]
@[simp] theorem State.afterCall_cfg (s : State) (o : CallOutcome) : (s.afterCall o).cfg = s.cfg := by simp [State.afterCall]
@[simp] theorem State.afterCall_steps (s : State) (o : CallOutcome) : (s.afterCall o).steps = s.steps + 1 := by simp [State.afterCall]

/-- A call leaves the content of every register but R0. -/
theorem State.afterCall_get {q : Reg} (h : q ≠ .r0) (s : State) (o : CallOutcome) : (s.afterCall o).regs.get q = s.regs.get q :=
  (State.setResult_frame h _ _).1

/-- The marks after a call: R1 to R5 are unwritten, R0 is written exactly if the function returned a value, the others are kept. -/
theorem State.afterCall_isWritten (s : State) (o : CallOutcome) (q : Reg) :
    (s.afterCall o).isWritten q =
      if q = .r0 then o.ret.isSome else !([Reg.r1, .r2, .r3, .r4, .r5].contains q) && s.isWritten q := by
  refine (State.clearScratch_isWritten _ q).trans ?_
  split
  · subst q; cases h : o.ret <;> rfl
  · rw [(State.setResult_frame ‹_› _ _).2]; rfl

/-- After a call that returned a value, R0 reads as it. -/
theorem State.afterCall_value {o : CallOutcome} {v : Word} (h : o.ret = some v) (s : State) (k : Nat) :
    (s.afterCall o).value k .r0 = v := by
  obtain ⟨_, _⟩ := o; subst h; rfl

/-- A register that has just been written reads as what was written. -/
theorem State.value_setReg_self {r : Reg} (h : r ≠ .r10) (s : State) (v : Word) (k : Nat) : (s.setReg r v).value k r = v := by
  simp [State.value, State.isWritten, Marks.get_set_self h, RegFile.get_set_self h]

/-- Writing a register leaves every other register's content and mark. -/
theorem State.setReg_frame {r q : Reg} (h : q ≠ r) (s : State) (v : Word) :
    (s.setReg r v).regs.get q = s.regs.get q ∧ (s.setReg r v).isWritten q = s.isWritten q :=
  ⟨RegFile.get_set_ne h _ _, Marks.get_set_ne h _ _⟩

end Sys2Proof.Machine
end

