-- ==== Sys2Proof/Laws/Ops.lean ====
section
/-! SUPPORT. For each shared operation, once, everything it can do when it answers a next state; and what it answers when its checks
pass. -/

namespace Sys2Proof.Machine

variable {s t : State}

theorem legal_next {i : Instr} {k : Out} (h : legal i s k = .next t) : i.wellFormed s.cfg.negReading = true ∧ k = .next t := by
  unfold legal at h
  split at h
  · exact ⟨‹_›, h⟩
  · cases h

theorem legal_of_wellFormed {i : Instr} {k : Out} (h : i.wellFormed s.cfg.negReading = true) : legal i s k = k := by
  simp [legal, h]

theorem legal_of_not_wellFormed {i : Instr} {k : Out} (h : i.wellFormed s.cfg.negReading = false) :
    legal i s k = .fault (.illegalInstruction s.pc (firstWord s.cfg.imm64Form i)) := by
  simp [legal, h, raise]

theorem readReg_next {n : Nat} {r : Reg} {k : Word → Out} (h : readReg n r s k = .next t) :
    s.readable r = true ∧ k (s.value n r) = .next t := by
  unfold readReg at h
  split at h
  · exact ⟨‹_›, h⟩
  · cases h

theorem readReg_of_readable {n : Nat} {r : Reg} {k : Word → Out} (h : s.readable r = true) : readReg n r s k = k (s.value n r) := by
  simp [readReg, h]

theorem readReg_of_not_readable {n : Nat} {r : Reg} {k : Word → Out} (h : s.readable r = false) :
    readReg n r s k = .fault (.uninitRegister s.pc r) := by
  simp [readReg, h, raise]

@[simp] theorem readable_r10 : s.readable .r10 = true := rfl

theorem readable_of_draw (h : s.cfg.unwrittenRead = .draw) (r : Reg) : s.readable r = true := by
  simp [State.readable, h]

theorem readRegs_next {rs : List Reg} {k : List Word → Out} (h : readRegs rs s k = .next t) :
    (∀ r ∈ rs, s.readable r = true) ∧ k (rs.map (s.value 0)) = .next t := by
  induction rs generalizing k with
  | nil => exact ⟨by simp, h⟩
  | cons r rest ih =>
    obtain ⟨h1, h2⟩ := readReg_next h
    obtain ⟨h3, h4⟩ := ih h2
    exact ⟨by simp [h1]; exact h3, by simpa using h4⟩

theorem readRegs_of_readable {rs : List Reg} {k : List Word → Out} (h : ∀ r ∈ rs, s.readable r = true) :
    readRegs rs s k = k (rs.map (s.value 0)) := by
  induction rs generalizing k with
  | nil => rfl
  | cons r rest ih =>
    rw [readRegs, readReg_of_readable (h r (by simp)), ih (fun q hq => h q (by simp [hq]))]
    simp

/-- The value of a 64-bit operand. -/
def operandValue64 (o : Operand) (s : State) : Word :=
  match o with
  | .reg r => s.value 1 r
  | .imm v => v.signExtend 64

/-- The value of a 32-bit operand. -/
def operandValue32 (o : Operand) (s : State) : BitVec 32 :=
  match o with
  | .reg r => (s.value 1 r).setWidth 32
  | .imm v => v

theorem operand64_next {o : Operand} {k : Word → Out} (h : operand64 o s k = .next t) : k (operandValue64 o s) = .next t := by
  cases o with
  | reg r => exact (readReg_next h).2
  | imm v => exact h

theorem operand32_next {o : Operand} {k : BitVec 32 → Out} (h : operand32 o s k = .next t) :
    k (operandValue32 o s) = .next t := by
  cases o with
  | reg r => exact (readReg_next (k := fun v => k (v.setWidth 32)) h).2
  | imm v => exact h

theorem withCount_next {w : Nat} {c : BitVec w} {k : Nat → Out} (h : withCount s c k = .next t) :
    ∃ n, shiftCount s.cfg.shiftPolicy c = some n ∧ k n = .next t := by
  unfold withCount at h
  split at h
  · exact ⟨_, ‹_›, h⟩
  · cases h

theorem access_next {kind : AccessKind} {z : Size} {a : Word} {k : Out} (h : access kind z a s k = .next t) :
    aligned s.cfg kind a.toNat (sizeBytes z) = true ∧ admits s.cfg kind a.toNat (sizeBytes z) = true ∧ k = .next t := by
  unfold access at h
  split at h
  · split at h
    · exact ⟨‹_›, ‹_›, h⟩
    · cases h
  · cases h

theorem access_of_admitted {kind : AccessKind} {z : Size} {a : Word} {k : Out}
    (h1 : aligned s.cfg kind a.toNat (sizeBytes z) = true) (h2 : admits s.cfg kind a.toNat (sizeBytes z) = true) :
    access kind z a s k = k := by
  simp [access, h1, h2]

/-- A register-writing operation of one slot ends in `finish`. -/
theorem alu64_next {f : Word → Word → Word} {dst : Reg} {o : Operand} (h : alu64 f dst o s = .next t) :
    t = s.finish dst (f (s.value 0 dst) (operandValue64 o s)) := by
  cases operand64_next (readReg_next h).2; rfl

theorem alu32_next {f : BitVec 32 → BitVec 32 → BitVec 32} {dst : Reg} {o : Operand} (h : alu32 f dst o s = .next t) :
    t = s.finish dst ((f ((s.value 0 dst).setWidth 32) (operandValue32 o s)).setWidth 64) := by
  cases operand32_next (readReg_next h).2; rfl

theorem shift64_next {f : Word → Nat → Word} {dst : Reg} {o : Operand} (h : shift64 f dst o s = .next t) :
    ∃ n, shiftCount s.cfg.shiftPolicy (operandValue64 o s) = some n ∧ t = s.finish dst (f (s.value 0 dst) n) := by
  obtain ⟨n, hn, h⟩ := withCount_next (operand64_next (readReg_next h).2)
  cases h; exact ⟨n, hn, rfl⟩

theorem shift32_next {f : BitVec 32 → Nat → BitVec 32} {dst : Reg} {o : Operand} (h : shift32 f dst o s = .next t) :
    ∃ n, shiftCount s.cfg.shiftPolicy (operandValue32 o s) = some n ∧
      t = s.finish dst ((f ((s.value 0 dst).setWidth 32) n).setWidth 64) := by
  obtain ⟨n, hn, h⟩ := withCount_next (operand32_next (readReg_next h).2)
  cases h; exact ⟨n, hn, rfl⟩

theorem mov64_next {dst : Reg} {o : Operand} (h : mov64 dst o s = .next t) : t = s.finish dst (operandValue64 o s) := by
  cases operand64_next h; rfl

theorem mov32_next {dst : Reg} {o : Operand} (h : mov32 dst o s = .next t) :
    t = s.finish dst ((operandValue32 o s).setWidth 64) := by
  cases operand32_next h; rfl

theorem neg64_next {dst : Reg} {o : Operand} (h : neg64 dst o s = .next t) : ∃ v, t = s.finish dst v := by
  unfold neg64 at h
  split at h
  · cases operand64_next h; exact ⟨_, rfl⟩
  · cases (readReg_next h).2; exact ⟨_, rfl⟩

theorem neg32_next {dst : Reg} {o : Operand} (h : neg32 dst o s = .next t) : ∃ v, t = s.finish dst v := by
  unfold neg32 at h
  split at h
  · cases operand32_next h; exact ⟨_, rfl⟩
  · cases (readReg_next h).2; exact ⟨_, rfl⟩

theorem byteSwap_next {target : Endian} {z : Size} {dst : Reg} (h : byteSwap target z dst s = .next t) :
    t = s.finish dst (convertBytes s.cfg.hostEndian target z (s.value 0 dst)) := by
  cases (readReg_next h).2; rfl

theorem jump64_next {c : Cond} {dst : Reg} {o : Operand} {off : BitVec 16} (h : jump64 c dst o off s = .next t) :
    t = s.branch (condHolds c (s.value 0 dst) (operandValue64 o s)) off := by
  cases operand64_next (readReg_next h).2; rfl

theorem jump32_next {c : Cond} {dst : Reg} {o : Operand} {off : BitVec 16} (h : jump32 c dst o off s = .next t) :
    t = s.branch (condHolds c ((s.value 0 dst).setWidth 32) (operandValue32 o s)) off := by
  cases operand32_next (readReg_next h).2; rfl

theorem loadReg_next {z : Size} {dst src : Reg} {off : BitVec 16} (h : loadReg z dst src off s = .next t) :
    t = s.finish dst (s.load (effectiveAddress (s.value 0 src) off) z) := by
  cases (access_next (readReg_next h).2).2.2; rfl

theorem storeValue_next {z : Size} {base : Word} {off : BitVec 16} {v : Word} (h : storeValue z base off v s = .next t) :
    admits s.cfg .write (effectiveAddress base off).toNat (sizeBytes z) = true ∧
      t = (s.store (effectiveAddress base off) z v).advance 1 := by
  obtain ⟨-, h1, h2⟩ := access_next h
  cases h2; exact ⟨h1, rfl⟩

theorem storeReg_next {z : Size} {dst src : Reg} {off : BitVec 16} (h : storeReg z dst src off s = .next t) :
    admits s.cfg .write (effectiveAddress (s.value 0 dst) off).toNat (sizeBytes z) = true ∧
      t = (s.store (effectiveAddress (s.value 0 dst) off) z (s.value 1 src)).advance 1 :=
  storeValue_next (readReg_next (readReg_next h).2).2

theorem storeImm_next {z : Size} {dst : Reg} {off : BitVec 16} {imm : BitVec 32} (h : storeImm z dst off imm s = .next t) :
    admits s.cfg .write (effectiveAddress (s.value 0 dst) off).toNat (sizeBytes z) = true ∧
      t = (s.store (effectiveAddress (s.value 0 dst) off) z (imm.signExtend 64)).advance 1 :=
  storeValue_next (readReg_next h).2

theorem atomicRmw_next {z : Size} {f : Word → Word → Word} {fetch : Bool} {dst src : Reg} {off : BitVec 16}
    (h : atomicRmw z f fetch dst src off s = .next t) :
    let a := effectiveAddress (s.value 0 dst) off
    let u := s.store a z (f (s.load a z) (s.value 1 src))
    admits s.cfg .atomic a.toNat (sizeBytes z) = true ∧
      t = (if fetch then u.setReg src (s.load a z) else u).advance 1 := by
  obtain ⟨-, h1, h2⟩ := access_next (readReg_next (readReg_next h).2).2
  cases h2; exact ⟨h1, rfl⟩

theorem atomicCmpxchg_next {z : Size} {dst src : Reg} {off : BitVec 16} (h : atomicCmpxchg z dst src off s = .next t) :
    let a := effectiveAddress (s.value 0 dst) off
    admits s.cfg .atomic a.toNat (sizeBytes z) = true ∧
      t = ((if s.load a z = lowBits z (s.value 2 .r0) then s.store a z (s.value 1 src) else s).setReg .r0 (s.load a z)).advance 1 := by
  obtain ⟨-, h1, h2⟩ := access_next (readReg_next (readReg_next (readReg_next h).2).2).2
  cases h2; exact ⟨h1, rfl⟩

theorem pick_mem {α : Type} {n : Nat} {l : List α} {a : α} (h : pick l n = some a) : a ∈ l := by
  induction l, n using pick.induct with
  | case1 => simp [pick] at h
  | case2 => simp_all [pick]
  | case3 => simp_all [pick]
  | case4 _ _ _ _ ih => simp only [pick] at h; exact List.mem_cons_of_mem _ (ih h)

theorem pick_none {α : Type} {n : Nat} {l : List α} (h : pick l n = none) : l = [] := by
  induction l, n using pick.induct with
  | case1 => rfl
  | case2 => simp [pick] at h
  | case3 => simp [pick] at h
  | case4 _ _ _ _ ih => simp only [pick] at h; cases ih h

/-- The outcome of a call is one that the function admits, wherever it names one. -/
theorem callOutcome_mem {c : Config} {site : CallSite} {f : PlatformFn} (h : admittedOutcomes c site f ≠ []) :
    callOutcome c site f ∈ admittedOutcomes c site f := by
  unfold callOutcome
  split
  · exact pick_mem ‹_›
  · exact absurd (pick_none ‹_›) h

/-- The outcomes a function admits are its alternatives whose guard holds. -/
theorem mem_admittedOutcomes {c : Config} {site : CallSite} {f : PlatformFn} {o : CallOutcome} :
    o ∈ admittedOutcomes c site f ↔ ∃ a ∈ f.outcomes, evalFn c site a.guard ≠ 0#64 ∧ evalOutcome c site a = o := by
  simp [admittedOutcomes, and_assoc]

theorem execCall_next {imm : BitVec 32} (h : execCall imm s = .next t) :
    ∃ f, findFn imm s.cfg.callTable = some f ∧ (∀ r ∈ argRegs f, s.readable r = true) ∧
      t = s.afterCall (callOutcome s.cfg (s.callSite f ((argRegs f).map (s.value 0))) f) := by
  have h := (legal_next h).2
  split at h
  · cases h
  · obtain ⟨h1, h2⟩ := readRegs_next h
    cases h2; exact ⟨_, ‹_›, h1, rfl⟩

theorem execExit_next (h : execExit s = .next t) : s.readable .r0 = true ∧ t = s.exited (s.value 0 .r0) := by
  obtain ⟨h1, h2⟩ := readReg_next (legal_next h).2
  cases h2; exact ⟨h1, rfl⟩

/-- A step that answers a next state has fetched an instruction of a running machine and run it. -/
theorem step_next (h : step s = .next t) : ∃ i, fetch s = .ok i ∧ exec i s = .next t := by
  unfold step at h
  split at h
  · exact ⟨_, ‹_›, h⟩
  · cases h

/-- The fetch gives an instruction only to a running machine, from the word at its program counter. -/
theorem fetch_ok {i : Instr} (h : fetch s = .ok i) :
    s.status = .running ∧ ∃ k w, s.pc = Int.ofNat k ∧ s.prog[k]? = some w ∧ isSecondSlot s.prog k = false ∧
      decode s.cfg.negReading s.cfg.imm64Form w s.prog[k + 1]? = .ok i := by
  unfold fetch at h
  split at h
  · refine ⟨‹_›, ?_⟩
    split at h
    · split at h
      · cases h
      · split at h
        · cases h
        · unfold decodeAt at h
          split at h
          · cases h
            exact ⟨_, _, ‹_›, ‹_›, Bool.eq_false_iff.mpr ‹¬ isSecondSlot _ _ = true›, ‹_›⟩
          · cases h
          · cases h
    · cases h
  all_goals cases h

end Sys2Proof.Machine
end

