-- ==== Sys2Proof/Laws/Exec.lean ====
section
/-! SUPPORT. Every shape a next state can have, once for all instructions: which registers, which bytes and where the program counter. -/

namespace Sys2Proof.Machine

/-- What `exec i s` can have answered as a next state, by what the tables of `Safety` say of `i`. -/
inductive NextShape (i : Instr) (s : State) : State → Prop
  /-- One register written, next slot. -/
  | wroteReg (d : Reg) (v : Word) (hd : d ≠ .r10) (hw : writtenRegs i = [d])
      (ha : accessForm i = none ∨ ∃ b off z, accessForm i = some (.read, b, off, z))
      (hl : ∀ form, (encode form i).length = 1) (he : i ≠ .exit) : NextShape i s (s.finish d v)
  /-- One register written, two slots on. -/
  | wroteWide (d : Reg) (v : Word) (hd : d ≠ .r10) (hw : writtenRegs i = [d]) (ha : accessForm i = none)
      (hl : ∀ form, (encode form i).length = 2) (he : i ≠ .exit) : NextShape i s ((s.setReg d v).advance 2)
  /-- A jump, taken or not. -/
  | branched (taken : Bool) (off : BitVec 16) (hw : writtenRegs i = []) (ha : accessForm i = none) (hj : jumpOffset i = some off)
      (hl : ∀ form, (encode form i).length = 1) (he : i ≠ .exit) : NextShape i s (s.branch taken off)
  /-- Bytes stored, no register written. -/
  | stored (kind : AccessKind) (b : Reg) (off : BitVec 16) (z : Size) (v : Word) (hk : kind ≠ .read) (hw : writtenRegs i = [])
      (ha : accessForm i = some (kind, b, off, z))
      (hm : admits s.cfg kind (effectiveAddress (s.value 0 b) off).toNat (sizeBytes z) = true)
      (hl : ∀ form, (encode form i).length = 1) (he : i ≠ .exit) :
      NextShape i s ((s.store (effectiveAddress (s.value 0 b) off) z v).advance 1)
  /-- Bytes stored and one register written: an atomic operation that returns the old value. -/
  | storedWrote (b : Reg) (off : BitVec 16) (z : Size) (v : Word) (d : Reg) (old : Word) (hd : d ≠ .r10) (hw : writtenRegs i = [d])
      (ha : accessForm i = some (.atomic, b, off, z))
      (hm : admits s.cfg .atomic (effectiveAddress (s.value 0 b) off).toNat (sizeBytes z) = true)
      (hl : ∀ form, (encode form i).length = 1) (he : i ≠ .exit) :
      NextShape i s (((s.store (effectiveAddress (s.value 0 b) off) z v).setReg d old).advance 1)
  /-- A compare and exchange that found another value: one register written. -/
  | compared (b : Reg) (off : BitVec 16) (z : Size) (d : Reg) (old : Word) (hd : d ≠ .r10) (hw : writtenRegs i = [d])
      (ha : accessForm i = some (.atomic, b, off, z))
      (hm : admits s.cfg .atomic (effectiveAddress (s.value 0 b) off).toNat (sizeBytes z) = true)
      (hl : ∀ form, (encode form i).length = 1) (he : i ≠ .exit) : NextShape i s ((s.setReg d old).advance 1)
  /-- A called function has returned. -/
  | called (imm : BitVec 32) (o : CallOutcome) (hi : i = .call imm) : NextShape i s (s.afterCall o)
  /-- The run has ended. -/
  | exited (v : Word) (hi : i = .exit) : NextShape i s (s.exited v)

set_option maxHeartbeats 1000000 in
/-- A next state has one of the shapes. -/
theorem exec_nextShape {i : Instr} {s t : State} (h : exec i s = .next t) : NextShape i s t := by
  cases i
  case call imm => obtain ⟨f, -, -, rfl⟩ := execCall_next h; exact .called _ _ rfl
  case exit => obtain ⟨-, rfl⟩ := execExit_next h; exact .exited _ rfl
  case ldAbs => cases h
  case ldInd => cases h
  case ja off => cases h; exact .branched true off rfl rfl rfl (fun _ => rfl) (by simp)
  case ldImm64 d v =>
    obtain ⟨hw, h⟩ := legal_next h
    cases h
    simp only [Instr.wellFormed, Reg.writable, bne_iff_ne] at hw
    exact .wroteWide d v hw rfl rfl (fun form => by cases form <;> rfl) (by simp)
  all_goals
    simp only [exec, execAdd32K, execAdd32X, execSub32K, execSub32X, execMul32K, execMul32X, execDiv32K, execDiv32X, execOr32K,
      execOr32X, execAnd32K, execAnd32X, execLsh32K, execLsh32X, execRsh32K, execRsh32X, execNeg32K, execNeg32X, execMod32K, execMod32X,
      execXor32K, execXor32X, execMov32K, execMov32X, execArsh32K, execArsh32X, execAdd64K, execAdd64X, execSub64K, execSub64X,
      execMul64K, execMul64X, execDiv64K, execDiv64X, execOr64K, execOr64X, execAnd64K, execAnd64X, execLsh64K, execLsh64X, execRsh64K,
      execRsh64X, execNeg64K, execNeg64X, execMod64K, execMod64X, execXor64K, execXor64X, execMov64K, execMov64X, execArsh64K,
      execArsh64X, execAtomicAdd32, execAtomicAdd64, execAtomicFetchAdd32, execAtomicFetchAdd64, execAtomicOr32, execAtomicOr64,
      execAtomicFetchOr32, execAtomicFetchOr64, execAtomicAnd32, execAtomicAnd64, execAtomicFetchAnd32, execAtomicFetchAnd64,
      execAtomicXor32, execAtomicXor64, execAtomicFetchXor32, execAtomicFetchXor64, execAtomicXchg32, execAtomicXchg64,
      execAtomicCmpxchg32, execAtomicCmpxchg64, execLe16, execLe32, execLe64, execBe16, execBe32, execBe64, execJeqK, execJeqX,
      execJgtK, execJgtX, execJgeK, execJgeX, execJsetK, execJsetX, execJneK, execJneX, execJsgtK, execJsgtX, execJsgeK, execJsgeX,
      execJltK, execJltX, execJleK, execJleX, execJsltK, execJsltX, execJsleK, execJsleX, execJeq32K, execJeq32X, execJgt32K,
      execJgt32X, execJge32K, execJge32X, execJset32K, execJset32X, execJne32K, execJne32X, execJsgt32K, execJsgt32X, execJsge32K,
      execJsge32X, execJlt32K, execJlt32X, execJle32K, execJle32X, execJslt32K, execJslt32X, execJsle32K, execJsle32X, execStxw,
      execStxh, execStxb, execStxdw, execStw, execSth, execStb, execStdw, execLdxw, execLdxh, execLdxb, execLdxdw] at h
    obtain ⟨hw, h⟩ := legal_next h
    simp only [Instr.wellFormed, Reg.writable, Bool.and_eq_true, bne_iff_ne] at hw
    try replace hw := hw.1
    first
    | (rw [alu64_next h]; exact .wroteReg _ _ hw rfl (.inl rfl) (fun _ => rfl) (by simp))
    | (rw [alu32_next h]; exact .wroteReg _ _ hw rfl (.inl rfl) (fun _ => rfl) (by simp))
    | (obtain ⟨_, -, hx⟩ := shift64_next h; rw [hx]; exact .wroteReg _ _ hw rfl (.inl rfl) (fun _ => rfl) (by simp))
    | (obtain ⟨_, -, hx⟩ := shift32_next h; rw [hx]; exact .wroteReg _ _ hw rfl (.inl rfl) (fun _ => rfl) (by simp))
    | (rw [mov64_next h]; exact .wroteReg _ _ hw rfl (.inl rfl) (fun _ => rfl) (by simp))
    | (rw [mov32_next h]; exact .wroteReg _ _ hw rfl (.inl rfl) (fun _ => rfl) (by simp))
    | (obtain ⟨_, hx⟩ := neg64_next h; rw [hx]; exact .wroteReg _ _ hw rfl (.inl rfl) (fun _ => rfl) (by simp))
    | (obtain ⟨_, hx⟩ := neg32_next h; rw [hx]; exact .wroteReg _ _ hw rfl (.inl rfl) (fun _ => rfl) (by simp))
    | (rw [byteSwap_next h]; exact .wroteReg _ _ hw rfl (.inl rfl) (fun _ => rfl) (by simp))
    | (rw [loadReg_next h]; exact .wroteReg _ _ hw rfl (.inr ⟨_, _, _, rfl⟩) (fun _ => rfl) (by simp))
    | (rw [jump64_next h]; exact .branched _ _ rfl rfl rfl (fun _ => rfl) (by simp))
    | (rw [jump32_next h]; exact .branched _ _ rfl rfl rfl (fun _ => rfl) (by simp))
    | (obtain ⟨hm, hx⟩ := storeReg_next h; rw [hx]; exact .stored .write _ _ _ _ (by simp) rfl rfl hm (fun _ => rfl) (by simp))
    | (obtain ⟨hm, hx⟩ := storeImm_next h; rw [hx]; exact .stored .write _ _ _ _ (by simp) rfl rfl hm (fun _ => rfl) (by simp))
    | (obtain ⟨hm, hx⟩ := atomicRmw_next h; rw [hx]; exact .stored .atomic _ _ _ _ (by simp) rfl rfl hm (fun _ => rfl) (by simp))
    | (obtain ⟨hm, hx⟩ := atomicRmw_next h; rw [hx]; exact .storedWrote _ _ _ _ _ _ hw rfl rfl hm (fun _ => rfl) (by simp))
    | (obtain ⟨hm, hx⟩ := atomicCmpxchg_next h
       rw [hx]
       split
       · exact .storedWrote _ _ _ _ .r0 _ (by simp) rfl rfl hm (fun _ => rfl) (by simp)
       · exact .compared _ _ _ .r0 _ (by simp) rfl rfl hm (fun _ => rfl) (by simp))

end Sys2Proof.Machine
end

