-- ==== Sys2Proof/Laws/Memory.lean ====
section
/-! SUPPORT. Data memory: reading after writing one byte, and that every memory operation keeps the canonical form. -/

namespace Sys2Proof.Machine

theorem memByte?_memSet_self (m : List Host.Cell) (a : Nat) (b : Byte) : memByte? (memSet m a b) a = some b := by
  induction m with
  | nil => simp [memSet, memByte?]
  | cons c rest ih =>
    obtain ⟨a', b'⟩ := c
    simp only [memSet]
    split
    · simp [memByte?]
    · split
      · simp [memByte?]
      · simp [memByte?, *]

theorem memByte?_memSet_ne {a x : Nat} (h : x ≠ a) (m : List Host.Cell) (b : Byte) :
    memByte? (memSet m a b) x = memByte? m x := by
  induction m with
  | nil => simp [memSet, memByte?, h]
  | cons c rest ih =>
    obtain ⟨a', b'⟩ := c
    simp only [memSet]
    split
    · simp [memByte?, h]
    · split
      · subst_vars; simp [memByte?, h]
      · simp [memByte?, ih]

/-- A byte reads as what was last written to it. -/
theorem memByte_memSet_self (m : List Host.Cell) (a : Nat) (b : Byte) : memByte (memSet m a b) a = b := by
  simp [memByte, memByte?_memSet_self]

/-- Writing a byte leaves every other byte. -/
theorem memByte_memSet_ne {a x : Nat} (h : x ≠ a) (m : List Host.Cell) (b : Byte) :
    memByte (memSet m a b) x = memByte m x := by
  simp [memByte, memByte?_memSet_ne h]

/-- Writing bytes leaves every byte outside them. -/
theorem memByte_memSetAll_outside {x : Nat} (bs : List Byte) :
    ∀ (m : List Host.Cell) (a : Nat), (x < a ∨ a + bs.length ≤ x) → memByte (memSetAll m a bs) x = memByte m x := by
  induction bs with
  | nil => intros; rfl
  | cons b rest ih =>
    intro m a h
    simp only [List.length_cons] at h
    rw [memSetAll, ih _ _ (by omega), memByte_memSet_ne (by omega)]

@[simp] theorem length_bytesLE (n : Nat) : ∀ v : Word, (bytesLE n v).length = n := by
  induction n with
  | zero => intro; rfl
  | succ n ih => intro v; simp [bytesLE, ih]

@[simp] theorem length_hostOrder (e : Endian) (bs : List Byte) : (hostOrder e bs).length = bs.length := by
  cases e <;> simp [hostOrder]

@[simp] theorem length_memBytes (m : List Host.Cell) (n : Nat) : ∀ a, (memBytes m a n).length = n := by
  induction n with
  | zero => intro; rfl
  | succ n ih => intro a; simp [memBytes, ih]

/-- `MemWrite` leaves every byte outside the `n` bytes it writes. -/
theorem memByte_memWrite_outside {x a n : Nat} (h : x < a ∨ a + n ≤ x) (e : Endian) (m : List Host.Cell) (v : Word) :
    memByte (memWrite e m a n v) x = memByte m x :=
  memByte_memSetAll_outside _ _ _ (by simpa using h)

/-! ### The canonical form -/

theorem memSortedFrom_mono {lo lo' : Nat} (h : lo' ≤ lo) (m : List Host.Cell) (hm : memSortedFrom lo m = true) :
    memSortedFrom lo' m = true := by
  cases m with
  | nil => rfl
  | cons c rest =>
    obtain ⟨a, b⟩ := c
    simp only [memSortedFrom, Bool.and_eq_true, decide_eq_true_eq] at hm ⊢
    exact ⟨⟨by omega, hm.1.2⟩, hm.2⟩

theorem memSortedFrom_memSet {a : Nat} (ha : a < 2 ^ 64) (b : Byte) (m : List Host.Cell) :
    ∀ lo, lo ≤ a → memSortedFrom lo m = true → memSortedFrom lo (memSet m a b) = true := by
  induction m with
  | nil => intro lo hlo _; simpa [memSet, memSortedFrom, hlo] using ha
  | cons c rest ih =>
    obtain ⟨a', b'⟩ := c
    intro lo hlo hm
    simp only [memSortedFrom, Bool.and_eq_true, decide_eq_true_eq] at hm
    simp only [memSet]
    split
    · simp only [memSortedFrom, Bool.and_eq_true, decide_eq_true_eq]
      exact ⟨⟨hlo, ha⟩, ⟨by omega, hm.1.2⟩, hm.2⟩
    · split
      · subst_vars
        simp only [memSortedFrom, Bool.and_eq_true, decide_eq_true_eq]
        exact hm
      · simp only [memSortedFrom, Bool.and_eq_true, decide_eq_true_eq]
        exact ⟨hm.1, ih _ (by omega) hm.2⟩

/-- Writing a byte of the address space keeps the canonical form. -/
theorem wf_memSet {a : Nat} (ha : a < 2 ^ 64) (b : Byte) {m : List Host.Cell} (hm : Memory.wf m = true) :
    Memory.wf (memSet m a b) = true :=
  memSortedFrom_memSet ha b m 0 (Nat.zero_le a) hm

/-- Writing bytes of the address space keeps the canonical form. -/
theorem wf_memSetAll (bs : List Byte) :
    ∀ {m : List Host.Cell} {a : Nat}, a + bs.length ≤ 2 ^ 64 → Memory.wf m = true → Memory.wf (memSetAll m a bs) = true := by
  induction bs with
  | nil => intro _ _ _ h; exact h
  | cons b rest ih =>
    intro m a ha hm
    simp only [List.length_cons] at ha
    exact ih (by omega) (wf_memSet (by omega) b hm)

/-- `MemWrite` inside the address space keeps the canonical form. -/
theorem wf_memWrite {a n : Nat} (h : a + n ≤ 2 ^ 64) (e : Endian) {m : List Host.Cell} (v : Word) (hm : Memory.wf m = true) :
    Memory.wf (memWrite e m a n v) = true :=
  wf_memSetAll _ (by simpa using h) hm

/-- An admitted access does not pass the top of the address space (`20_memory.md` R52). -/
theorem admits_le {c : Config} {k : AccessKind} {a n : Nat} (h : admits c k a n = true) : a + n ≤ 2 ^ 64 := by
  simp only [admits, Bool.and_eq_true, decide_eq_true_eq] at h
  exact h.1

/-- Nor does an access that a called function may do. -/
theorem fnMay_le {c : Config} {k : AccessKind} {a n : Nat} (h : fnMay c k a n = true) : a + n ≤ 2 ^ 64 := by
  rcases Bool.or_eq_true_iff.mp h with h | h <;> exact admits_le h

/-- The stores of a called function keep the canonical form. -/
theorem wf_callMemory (c : Config) (ws : List (Word × Size × Word)) :
    ∀ {m : List Host.Cell}, Memory.wf m = true → Memory.wf (callMemory c m ws) = true := by
  induction ws with
  | nil => intro _ h; exact h
  | cons w rest ih =>
    intro m hm
    simp only [callMemory]
    split
    · exact ih (wf_memWrite (fnMay_le ‹_›) _ _ hm)
    · exact ih hm

/-- The stores of a called function leave every byte that lies in no access it may do. -/
theorem memByte_callMemory_outside {c : Config} {x : Nat}
    (hx : ∀ (a : Nat) (z : Size), a ≤ x → x < a + sizeBytes z → fnMay c .write a (sizeBytes z) = false)
    (ws : List (Word × Size × Word)) : ∀ m : List Host.Cell, memByte (callMemory c m ws) x = memByte m x := by
  induction ws with
  | nil => intro _; rfl
  | cons w rest ih =>
    intro m
    simp only [callMemory]
    split
    · rename_i h
      rw [ih]
      refine memByte_memWrite_outside ?_ _ _ _
      by_contra hc
      rw [hx _ _ (by omega) (by omega)] at h
      cases h
    · exact ih _

/-- The memory of the reset state is in canonical form. -/
theorem wf_reset : Memory.wf State.reset.mem = true := rfl

end Sys2Proof.Machine
end

