-- ==== Sys2Proof/Laws/PerInstr.lean ====
section
/-! SUPPORT. Laws of the instructions as syntax, one lemma per constructor. -/

namespace Sys2Proof.Laws.EncodedLength

/-- The length of an encoding follows from its first word alone (`30_encoding.md` R76): two words if the opcode byte is 0x18, else one. -/
def Statement (i : Instr) : Prop :=
  ∀ form : Imm64Form, (encode form i).length = if isWideWord (firstWord form i) then 2 else 1

/-- A one-word encoding whose word is not wide. -/
theorem of_one_word {i : Instr} {w : Word} (h : ∀ form, encode form i = [w]) (hw : isWideWord w = false) : Statement i := by
  intro form; simp [firstWord, h form, hw]

theorem add64K (dst : Reg) (imm : BitVec 32) : Statement (.add64K dst imm) := of_one_word (fun _ => rfl) (isWideWord_basicWord _ _ _ _ _)
theorem add64X (dst src : Reg) : Statement (.add64X dst src) := of_one_word (fun _ => rfl) (isWideWord_basicWord _ _ _ _ _)
theorem sub64K (dst : Reg) (imm : BitVec 32) : Statement (.sub64K dst imm) := of_one_word (fun _ => rfl) (isWideWord_basicWord _ _ _ _ _)
theorem sub64X (dst src : Reg) : Statement (.sub64X dst src) := of_one_word (fun _ => rfl) (isWideWord_basicWord _ _ _ _ _)
theorem mul64K (dst : Reg) (imm : BitVec 32) : Statement (.mul64K dst imm) := of_one_word (fun _ => rfl) (isWideWord_basicWord _ _ _ _ _)
theorem mul64X (dst src : Reg) : Statement (.mul64X dst src) := of_one_word (fun _ => rfl) (isWideWord_basicWord _ _ _ _ _)
theorem div64K (dst : Reg) (imm : BitVec 32) : Statement (.div64K dst imm) := of_one_word (fun _ => rfl) (isWideWord_basicWord _ _ _ _ _)
theorem div64X (dst src : Reg) : Statement (.div64X dst src) := of_one_word (fun _ => rfl) (isWideWord_basicWord _ _ _ _ _)
theorem or64K (dst : Reg) (imm : BitVec 32) : Statement (.or64K dst imm) := of_one_word (fun _ => rfl) (isWideWord_basicWord _ _ _ _ _)
theorem or64X (dst src : Reg) : Statement (.or64X dst src) := of_one_word (fun _ => rfl) (isWideWord_basicWord _ _ _ _ _)
theorem and64K (dst : Reg) (imm : BitVec 32) : Statement (.and64K dst imm) := of_one_word (fun _ => rfl) (isWideWord_basicWord _ _ _ _ _)
theorem and64X (dst src : Reg) : Statement (.and64X dst src) := of_one_word (fun _ => rfl) (isWideWord_basicWord _ _ _ _ _)
theorem lsh64K (dst : Reg) (imm : BitVec 32) : Statement (.lsh64K dst imm) := of_one_word (fun _ => rfl) (isWideWord_basicWord _ _ _ _ _)
theorem lsh64X (dst src : Reg) : Statement (.lsh64X dst src) := of_one_word (fun _ => rfl) (isWideWord_basicWord _ _ _ _ _)
theorem rsh64K (dst : Reg) (imm : BitVec 32) : Statement (.rsh64K dst imm) := of_one_word (fun _ => rfl) (isWideWord_basicWord _ _ _ _ _)
theorem rsh64X (dst src : Reg) : Statement (.rsh64X dst src) := of_one_word (fun _ => rfl) (isWideWord_basicWord _ _ _ _ _)
theorem neg64K (dst : Reg) (imm : BitVec 32) : Statement (.neg64K dst imm) := of_one_word (fun _ => rfl) (isWideWord_basicWord _ _ _ _ _)
theorem neg64X (dst src : Reg) : Statement (.neg64X dst src) := of_one_word (fun _ => rfl) (isWideWord_basicWord _ _ _ _ _)
theorem mod64K (dst : Reg) (imm : BitVec 32) : Statement (.mod64K dst imm) := of_one_word (fun _ => rfl) (isWideWord_basicWord _ _ _ _ _)
theorem mod64X (dst src : Reg) : Statement (.mod64X dst src) := of_one_word (fun _ => rfl) (isWideWord_basicWord _ _ _ _ _)
theorem xor64K (dst : Reg) (imm : BitVec 32) : Statement (.xor64K dst imm) := of_one_word (fun _ => rfl) (isWideWord_basicWord _ _ _ _ _)
theorem xor64X (dst src : Reg) : Statement (.xor64X dst src) := of_one_word (fun _ => rfl) (isWideWord_basicWord _ _ _ _ _)
theorem mov64K (dst : Reg) (imm : BitVec 32) : Statement (.mov64K dst imm) := of_one_word (fun _ => rfl) (isWideWord_basicWord _ _ _ _ _)
theorem mov64X (dst src : Reg) : Statement (.mov64X dst src) := of_one_word (fun _ => rfl) (isWideWord_basicWord _ _ _ _ _)
theorem arsh64K (dst : Reg) (imm : BitVec 32) : Statement (.arsh64K dst imm) := of_one_word (fun _ => rfl) (isWideWord_basicWord _ _ _ _ _)
theorem arsh64X (dst src : Reg) : Statement (.arsh64X dst src) := of_one_word (fun _ => rfl) (isWideWord_basicWord _ _ _ _ _)
theorem add32K (dst : Reg) (imm : BitVec 32) : Statement (.add32K dst imm) := of_one_word (fun _ => rfl) (isWideWord_basicWord _ _ _ _ _)
theorem add32X (dst src : Reg) : Statement (.add32X dst src) := of_one_word (fun _ => rfl) (isWideWord_basicWord _ _ _ _ _)
theorem sub32K (dst : Reg) (imm : BitVec 32) : Statement (.sub32K dst imm) := of_one_word (fun _ => rfl) (isWideWord_basicWord _ _ _ _ _)
theorem sub32X (dst src : Reg) : Statement (.sub32X dst src) := of_one_word (fun _ => rfl) (isWideWord_basicWord _ _ _ _ _)
theorem mul32K (dst : Reg) (imm : BitVec 32) : Statement (.mul32K dst imm) := of_one_word (fun _ => rfl) (isWideWord_basicWord _ _ _ _ _)
theorem mul32X (dst src : Reg) : Statement (.mul32X dst src) := of_one_word (fun _ => rfl) (isWideWord_basicWord _ _ _ _ _)
theorem div32K (dst : Reg) (imm : BitVec 32) : Statement (.div32K dst imm) := of_one_word (fun _ => rfl) (isWideWord_basicWord _ _ _ _ _)
theorem div32X (dst src : Reg) : Statement (.div32X dst src) := of_one_word (fun _ => rfl) (isWideWord_basicWord _ _ _ _ _)
theorem or32K (dst : Reg) (imm : BitVec 32) : Statement (.or32K dst imm) := of_one_word (fun _ => rfl) (isWideWord_basicWord _ _ _ _ _)
theorem or32X (dst src : Reg) : Statement (.or32X dst src) := of_one_word (fun _ => rfl) (isWideWord_basicWord _ _ _ _ _)
theorem and32K (dst : Reg) (imm : BitVec 32) : Statement (.and32K dst imm) := of_one_word (fun _ => rfl) (isWideWord_basicWord _ _ _ _ _)
theorem and32X (dst src : Reg) : Statement (.and32X dst src) := of_one_word (fun _ => rfl) (isWideWord_basicWord _ _ _ _ _)
theorem lsh32K (dst : Reg) (imm : BitVec 32) : Statement (.lsh32K dst imm) := of_one_word (fun _ => rfl) (isWideWord_basicWord _ _ _ _ _)
theorem lsh32X (dst src : Reg) : Statement (.lsh32X dst src) := of_one_word (fun _ => rfl) (isWideWord_basicWord _ _ _ _ _)
theorem rsh32K (dst : Reg) (imm : BitVec 32) : Statement (.rsh32K dst imm) := of_one_word (fun _ => rfl) (isWideWord_basicWord _ _ _ _ _)
theorem rsh32X (dst src : Reg) : Statement (.rsh32X dst src) := of_one_word (fun _ => rfl) (isWideWord_basicWord _ _ _ _ _)
theorem neg32K (dst : Reg) (imm : BitVec 32) : Statement (.neg32K dst imm) := of_one_word (fun _ => rfl) (isWideWord_basicWord _ _ _ _ _)
theorem neg32X (dst src : Reg) : Statement (.neg32X dst src) := of_one_word (fun _ => rfl) (isWideWord_basicWord _ _ _ _ _)
theorem mod32K (dst : Reg) (imm : BitVec 32) : Statement (.mod32K dst imm) := of_one_word (fun _ => rfl) (isWideWord_basicWord _ _ _ _ _)
theorem mod32X (dst src : Reg) : Statement (.mod32X dst src) := of_one_word (fun _ => rfl) (isWideWord_basicWord _ _ _ _ _)
theorem xor32K (dst : Reg) (imm : BitVec 32) : Statement (.xor32K dst imm) := of_one_word (fun _ => rfl) (isWideWord_basicWord _ _ _ _ _)
theorem xor32X (dst src : Reg) : Statement (.xor32X dst src) := of_one_word (fun _ => rfl) (isWideWord_basicWord _ _ _ _ _)
theorem mov32K (dst : Reg) (imm : BitVec 32) : Statement (.mov32K dst imm) := of_one_word (fun _ => rfl) (isWideWord_basicWord _ _ _ _ _)
theorem mov32X (dst src : Reg) : Statement (.mov32X dst src) := of_one_word (fun _ => rfl) (isWideWord_basicWord _ _ _ _ _)
theorem arsh32K (dst : Reg) (imm : BitVec 32) : Statement (.arsh32K dst imm) := of_one_word (fun _ => rfl) (isWideWord_basicWord _ _ _ _ _)
theorem arsh32X (dst src : Reg) : Statement (.arsh32X dst src) := of_one_word (fun _ => rfl) (isWideWord_basicWord _ _ _ _ _)
theorem le16 (dst : Reg) : Statement (.le16 dst) := of_one_word (fun _ => rfl) (isWideWord_basicWord _ _ _ _ _)
theorem le32 (dst : Reg) : Statement (.le32 dst) := of_one_word (fun _ => rfl) (isWideWord_basicWord _ _ _ _ _)
theorem le64 (dst : Reg) : Statement (.le64 dst) := of_one_word (fun _ => rfl) (isWideWord_basicWord _ _ _ _ _)
theorem be16 (dst : Reg) : Statement (.be16 dst) := of_one_word (fun _ => rfl) (isWideWord_basicWord _ _ _ _ _)
theorem be32 (dst : Reg) : Statement (.be32 dst) := of_one_word (fun _ => rfl) (isWideWord_basicWord _ _ _ _ _)
theorem be64 (dst : Reg) : Statement (.be64 dst) := of_one_word (fun _ => rfl) (isWideWord_basicWord _ _ _ _ _)
theorem ja (off : BitVec 16) : Statement (.ja off) := of_one_word (fun _ => rfl) (isWideWord_basicWord _ _ _ _ _)
theorem jeqK (dst : Reg) (imm : BitVec 32) (off : BitVec 16) : Statement (.jeqK dst imm off) := of_one_word (fun _ => rfl) (isWideWord_basicWord _ _ _ _ _)
theorem jeqX (dst src : Reg) (off : BitVec 16) : Statement (.jeqX dst src off) := of_one_word (fun _ => rfl) (isWideWord_basicWord _ _ _ _ _)
theorem jgtK (dst : Reg) (imm : BitVec 32) (off : BitVec 16) : Statement (.jgtK dst imm off) := of_one_word (fun _ => rfl) (isWideWord_basicWord _ _ _ _ _)
theorem jgtX (dst src : Reg) (off : BitVec 16) : Statement (.jgtX dst src off) := of_one_word (fun _ => rfl) (isWideWord_basicWord _ _ _ _ _)
theorem jgeK (dst : Reg) (imm : BitVec 32) (off : BitVec 16) : Statement (.jgeK dst imm off) := of_one_word (fun _ => rfl) (isWideWord_basicWord _ _ _ _ _)
theorem jgeX (dst src : Reg) (off : BitVec 16) : Statement (.jgeX dst src off) := of_one_word (fun _ => rfl) (isWideWord_basicWord _ _ _ _ _)
theorem jsetK (dst : Reg) (imm : BitVec 32) (off : BitVec 16) : Statement (.jsetK dst imm off) := of_one_word (fun _ => rfl) (isWideWord_basicWord _ _ _ _ _)
theorem jsetX (dst src : Reg) (off : BitVec 16) : Statement (.jsetX dst src off) := of_one_word (fun _ => rfl) (isWideWord_basicWord _ _ _ _ _)
theorem jneK (dst : Reg) (imm : BitVec 32) (off : BitVec 16) : Statement (.jneK dst imm off) := of_one_word (fun _ => rfl) (isWideWord_basicWord _ _ _ _ _)
theorem jneX (dst src : Reg) (off : BitVec 16) : Statement (.jneX dst src off) := of_one_word (fun _ => rfl) (isWideWord_basicWord _ _ _ _ _)
theorem jsgtK (dst : Reg) (imm : BitVec 32) (off : BitVec 16) : Statement (.jsgtK dst imm off) := of_one_word (fun _ => rfl) (isWideWord_basicWord _ _ _ _ _)
theorem jsgtX (dst src : Reg) (off : BitVec 16) : Statement (.jsgtX dst src off) := of_one_word (fun _ => rfl) (isWideWord_basicWord _ _ _ _ _)
theorem jsgeK (dst : Reg) (imm : BitVec 32) (off : BitVec 16) : Statement (.jsgeK dst imm off) := of_one_word (fun _ => rfl) (isWideWord_basicWord _ _ _ _ _)
theorem jsgeX (dst src : Reg) (off : BitVec 16) : Statement (.jsgeX dst src off) := of_one_word (fun _ => rfl) (isWideWord_basicWord _ _ _ _ _)
theorem jltK (dst : Reg) (imm : BitVec 32) (off : BitVec 16) : Statement (.jltK dst imm off) := of_one_word (fun _ => rfl) (isWideWord_basicWord _ _ _ _ _)
theorem jltX (dst src : Reg) (off : BitVec 16) : Statement (.jltX dst src off) := of_one_word (fun _ => rfl) (isWideWord_basicWord _ _ _ _ _)
theorem jleK (dst : Reg) (imm : BitVec 32) (off : BitVec 16) : Statement (.jleK dst imm off) := of_one_word (fun _ => rfl) (isWideWord_basicWord _ _ _ _ _)
theorem jleX (dst src : Reg) (off : BitVec 16) : Statement (.jleX dst src off) := of_one_word (fun _ => rfl) (isWideWord_basicWord _ _ _ _ _)
theorem jsltK (dst : Reg) (imm : BitVec 32) (off : BitVec 16) : Statement (.jsltK dst imm off) := of_one_word (fun _ => rfl) (isWideWord_basicWord _ _ _ _ _)
theorem jsltX (dst src : Reg) (off : BitVec 16) : Statement (.jsltX dst src off) := of_one_word (fun _ => rfl) (isWideWord_basicWord _ _ _ _ _)
theorem jsleK (dst : Reg) (imm : BitVec 32) (off : BitVec 16) : Statement (.jsleK dst imm off) := of_one_word (fun _ => rfl) (isWideWord_basicWord _ _ _ _ _)
theorem jsleX (dst src : Reg) (off : BitVec 16) : Statement (.jsleX dst src off) := of_one_word (fun _ => rfl) (isWideWord_basicWord _ _ _ _ _)
theorem jeq32K (dst : Reg) (imm : BitVec 32) (off : BitVec 16) : Statement (.jeq32K dst imm off) := of_one_word (fun _ => rfl) (isWideWord_basicWord _ _ _ _ _)
theorem jeq32X (dst src : Reg) (off : BitVec 16) : Statement (.jeq32X dst src off) := of_one_word (fun _ => rfl) (isWideWord_basicWord _ _ _ _ _)
theorem jgt32K (dst : Reg) (imm : BitVec 32) (off : BitVec 16) : Statement (.jgt32K dst imm off) := of_one_word (fun _ => rfl) (isWideWord_basicWord _ _ _ _ _)
theorem jgt32X (dst src : Reg) (off : BitVec 16) : Statement (.jgt32X dst src off) := of_one_word (fun _ => rfl) (isWideWord_basicWord _ _ _ _ _)
theorem jge32K (dst : Reg) (imm : BitVec 32) (off : BitVec 16) : Statement (.jge32K dst imm off) := of_one_word (fun _ => rfl) (isWideWord_basicWord _ _ _ _ _)
theorem jge32X (dst src : Reg) (off : BitVec 16) : Statement (.jge32X dst src off) := of_one_word (fun _ => rfl) (isWideWord_basicWord _ _ _ _ _)
theorem jset32K (dst : Reg) (imm : BitVec 32) (off : BitVec 16) : Statement (.jset32K dst imm off) := of_one_word (fun _ => rfl) (isWideWord_basicWord _ _ _ _ _)
theorem jset32X (dst src : Reg) (off : BitVec 16) : Statement (.jset32X dst src off) := of_one_word (fun _ => rfl) (isWideWord_basicWord _ _ _ _ _)
theorem jne32K (dst : Reg) (imm : BitVec 32) (off : BitVec 16) : Statement (.jne32K dst imm off) := of_one_word (fun _ => rfl) (isWideWord_basicWord _ _ _ _ _)
theorem jne32X (dst src : Reg) (off : BitVec 16) : Statement (.jne32X dst src off) := of_one_word (fun _ => rfl) (isWideWord_basicWord _ _ _ _ _)
theorem jsgt32K (dst : Reg) (imm : BitVec 32) (off : BitVec 16) : Statement (.jsgt32K dst imm off) := of_one_word (fun _ => rfl) (isWideWord_basicWord _ _ _ _ _)
theorem jsgt32X (dst src : Reg) (off : BitVec 16) : Statement (.jsgt32X dst src off) := of_one_word (fun _ => rfl) (isWideWord_basicWord _ _ _ _ _)
theorem jsge32K (dst : Reg) (imm : BitVec 32) (off : BitVec 16) : Statement (.jsge32K dst imm off) := of_one_word (fun _ => rfl) (isWideWord_basicWord _ _ _ _ _)
theorem jsge32X (dst src : Reg) (off : BitVec 16) : Statement (.jsge32X dst src off) := of_one_word (fun _ => rfl) (isWideWord_basicWord _ _ _ _ _)
theorem jlt32K (dst : Reg) (imm : BitVec 32) (off : BitVec 16) : Statement (.jlt32K dst imm off) := of_one_word (fun _ => rfl) (isWideWord_basicWord _ _ _ _ _)
theorem jlt32X (dst src : Reg) (off : BitVec 16) : Statement (.jlt32X dst src off) := of_one_word (fun _ => rfl) (isWideWord_basicWord _ _ _ _ _)
theorem jle32K (dst : Reg) (imm : BitVec 32) (off : BitVec 16) : Statement (.jle32K dst imm off) := of_one_word (fun _ => rfl) (isWideWord_basicWord _ _ _ _ _)
theorem jle32X (dst src : Reg) (off : BitVec 16) : Statement (.jle32X dst src off) := of_one_word (fun _ => rfl) (isWideWord_basicWord _ _ _ _ _)
theorem jslt32K (dst : Reg) (imm : BitVec 32) (off : BitVec 16) : Statement (.jslt32K dst imm off) := of_one_word (fun _ => rfl) (isWideWord_basicWord _ _ _ _ _)
theorem jslt32X (dst src : Reg) (off : BitVec 16) : Statement (.jslt32X dst src off) := of_one_word (fun _ => rfl) (isWideWord_basicWord _ _ _ _ _)
theorem jsle32K (dst : Reg) (imm : BitVec 32) (off : BitVec 16) : Statement (.jsle32K dst imm off) := of_one_word (fun _ => rfl) (isWideWord_basicWord _ _ _ _ _)
theorem jsle32X (dst src : Reg) (off : BitVec 16) : Statement (.jsle32X dst src off) := of_one_word (fun _ => rfl) (isWideWord_basicWord _ _ _ _ _)
theorem call (imm : BitVec 32) : Statement (.call imm) := of_one_word (fun _ => rfl) (isWideWord_basicWord _ _ _ _ _)
theorem exit : Statement .exit := of_one_word (fun _ => rfl) (isWideWord_basicWord _ _ _ _ _)
theorem stxw (dst src : Reg) (off : BitVec 16) : Statement (.stxw dst src off) := of_one_word (fun _ => rfl) (isWideWord_basicWord _ _ _ _ _)
theorem stxh (dst src : Reg) (off : BitVec 16) : Statement (.stxh dst src off) := of_one_word (fun _ => rfl) (isWideWord_basicWord _ _ _ _ _)
theorem stxb (dst src : Reg) (off : BitVec 16) : Statement (.stxb dst src off) := of_one_word (fun _ => rfl) (isWideWord_basicWord _ _ _ _ _)
theorem stxdw (dst src : Reg) (off : BitVec 16) : Statement (.stxdw dst src off) := of_one_word (fun _ => rfl) (isWideWord_basicWord _ _ _ _ _)
theorem stw (dst : Reg) (off : BitVec 16) (imm : BitVec 32) : Statement (.stw dst off imm) := of_one_word (fun _ => rfl) (isWideWord_basicWord _ _ _ _ _)
theorem sth (dst : Reg) (off : BitVec 16) (imm : BitVec 32) : Statement (.sth dst off imm) := of_one_word (fun _ => rfl) (isWideWord_basicWord _ _ _ _ _)
theorem stb (dst : Reg) (off : BitVec 16) (imm : BitVec 32) : Statement (.stb dst off imm) := of_one_word (fun _ => rfl) (isWideWord_basicWord _ _ _ _ _)
theorem stdw (dst : Reg) (off : BitVec 16) (imm : BitVec 32) : Statement (.stdw dst off imm) := of_one_word (fun _ => rfl) (isWideWord_basicWord _ _ _ _ _)
theorem ldxw (dst src : Reg) (off : BitVec 16) : Statement (.ldxw dst src off) := of_one_word (fun _ => rfl) (isWideWord_basicWord _ _ _ _ _)
theorem ldxh (dst src : Reg) (off : BitVec 16) : Statement (.ldxh dst src off) := of_one_word (fun _ => rfl) (isWideWord_basicWord _ _ _ _ _)
theorem ldxb (dst src : Reg) (off : BitVec 16) : Statement (.ldxb dst src off) := of_one_word (fun _ => rfl) (isWideWord_basicWord _ _ _ _ _)
theorem ldxdw (dst src : Reg) (off : BitVec 16) : Statement (.ldxdw dst src off) := of_one_word (fun _ => rfl) (isWideWord_basicWord _ _ _ _ _)
theorem atomicAdd32 (dst src : Reg) (off : BitVec 16) : Statement (.atomicAdd32 dst src off) := of_one_word (fun _ => rfl) (isWideWord_basicWord _ _ _ _ _)
theorem atomicAdd64 (dst src : Reg) (off : BitVec 16) : Statement (.atomicAdd64 dst src off) := of_one_word (fun _ => rfl) (isWideWord_basicWord _ _ _ _ _)
theorem atomicFetchAdd32 (dst src : Reg) (off : BitVec 16) : Statement (.atomicFetchAdd32 dst src off) := of_one_word (fun _ => rfl) (isWideWord_basicWord _ _ _ _ _)
theorem atomicFetchAdd64 (dst src : Reg) (off : BitVec 16) : Statement (.atomicFetchAdd64 dst src off) := of_one_word (fun _ => rfl) (isWideWord_basicWord _ _ _ _ _)
theorem atomicOr32 (dst src : Reg) (off : BitVec 16) : Statement (.atomicOr32 dst src off) := of_one_word (fun _ => rfl) (isWideWord_basicWord _ _ _ _ _)
theorem atomicOr64 (dst src : Reg) (off : BitVec 16) : Statement (.atomicOr64 dst src off) := of_one_word (fun _ => rfl) (isWideWord_basicWord _ _ _ _ _)
theorem atomicFetchOr32 (dst src : Reg) (off : BitVec 16) : Statement (.atomicFetchOr32 dst src off) := of_one_word (fun _ => rfl) (isWideWord_basicWord _ _ _ _ _)
theorem atomicFetchOr64 (dst src : Reg) (off : BitVec 16) : Statement (.atomicFetchOr64 dst src off) := of_one_word (fun _ => rfl) (isWideWord_basicWord _ _ _ _ _)
theorem atomicAnd32 (dst src : Reg) (off : BitVec 16) : Statement (.atomicAnd32 dst src off) := of_one_word (fun _ => rfl) (isWideWord_basicWord _ _ _ _ _)
theorem atomicAnd64 (dst src : Reg) (off : BitVec 16) : Statement (.atomicAnd64 dst src off) := of_one_word (fun _ => rfl) (isWideWord_basicWord _ _ _ _ _)
theorem atomicFetchAnd32 (dst src : Reg) (off : BitVec 16) : Statement (.atomicFetchAnd32 dst src off) := of_one_word (fun _ => rfl) (isWideWord_basicWord _ _ _ _ _)
theorem atomicFetchAnd64 (dst src : Reg) (off : BitVec 16) : Statement (.atomicFetchAnd64 dst src off) := of_one_word (fun _ => rfl) (isWideWord_basicWord _ _ _ _ _)
theorem atomicXor32 (dst src : Reg) (off : BitVec 16) : Statement (.atomicXor32 dst src off) := of_one_word (fun _ => rfl) (isWideWord_basicWord _ _ _ _ _)
theorem atomicXor64 (dst src : Reg) (off : BitVec 16) : Statement (.atomicXor64 dst src off) := of_one_word (fun _ => rfl) (isWideWord_basicWord _ _ _ _ _)
theorem atomicFetchXor32 (dst src : Reg) (off : BitVec 16) : Statement (.atomicFetchXor32 dst src off) := of_one_word (fun _ => rfl) (isWideWord_basicWord _ _ _ _ _)
theorem atomicFetchXor64 (dst src : Reg) (off : BitVec 16) : Statement (.atomicFetchXor64 dst src off) := of_one_word (fun _ => rfl) (isWideWord_basicWord _ _ _ _ _)
theorem atomicXchg32 (dst src : Reg) (off : BitVec 16) : Statement (.atomicXchg32 dst src off) := of_one_word (fun _ => rfl) (isWideWord_basicWord _ _ _ _ _)
theorem atomicXchg64 (dst src : Reg) (off : BitVec 16) : Statement (.atomicXchg64 dst src off) := of_one_word (fun _ => rfl) (isWideWord_basicWord _ _ _ _ _)
theorem atomicCmpxchg32 (dst src : Reg) (off : BitVec 16) : Statement (.atomicCmpxchg32 dst src off) := of_one_word (fun _ => rfl) (isWideWord_basicWord _ _ _ _ _)
theorem atomicCmpxchg64 (dst src : Reg) (off : BitVec 16) : Statement (.atomicCmpxchg64 dst src off) := of_one_word (fun _ => rfl) (isWideWord_basicWord _ _ _ _ _)
theorem ldImm64 (dst : Reg) (imm64 : Word) : Statement (.ldImm64 dst imm64) := by
  intro form; cases form <;> simp [encode, firstWord, isWideWord_basicWord]
theorem ldAbs (size : Size) (rest : BitVec 56) : Statement (.ldAbs size rest) := of_one_word (fun _ => rfl) (by simp only [isWideWord, legacy_op]; cases size <;> rfl)
theorem ldInd (size : Size) (rest : BitVec 56) : Statement (.ldInd size rest) := of_one_word (fun _ => rfl) (by simp only [isWideWord, legacy_op]; cases size <;> rfl)

end Sys2Proof.Laws.EncodedLength
end

