-- ==== Sys2Proof/Tests/Slice0.lean ====
section
/-! SUPPORT. Tests of the model: ill-formed terms refused, one word of the spec's encodings decoded per instruction, single steps against
the vectors of `95_test_vectors.md`, and for every statement with hypotheses a state and operands that meet them. -/

open Sys2Proof Sys2Proof.Machine

set_option maxRecDepth 20000

namespace Sys2Proof.Tests

/-! ### Well-formedness: an ill-formed term for each check, and what passes at its edge -/

/-- Writing R10 is refused where `dst` is written (`10_state.md` R22). -/
theorem test_wf_dst_r10 : Instr.wellFormed .source (.add64K .r10 1#32) = false := by decide
theorem test_wf_load_dst_r10 : Instr.wellFormed .source (.ldxw .r10 .r1 0#16) = false := by decide
theorem test_wf_wide_dst_r10 : Instr.wellFormed .source (.ldImm64 .r10 0#64) = false := by decide
/-- Writing R10 is refused where `src` is written (`45_atomic.md` R210). -/
theorem test_wf_fetch_src_r10 : Instr.wellFormed .source (.atomicFetchAdd64 .r1 .r10 0#16) = false := by decide
theorem test_wf_xchg_src_r10 : Instr.wellFormed .source (.atomicXchg32 .r1 .r10 0#16) = false := by decide
/-- R10 may be read (`10_state.md` R22). -/
theorem test_wf_r10_read : Instr.wellFormed .source (.stxw .r10 .r10 0#16) = true ∧
    Instr.wellFormed .source (.atomicCmpxchg64 .r10 .r10 0#16) = true := by decide
/-- Under `negate_dst` the register form of `BPF_NEG` is reserved and the other has no immediate (`40_alu64.md` R109). -/
theorem test_wf_negX : Instr.wellFormed .negateDst (.neg64X .r1 .r2) = false ∧
    Instr.wellFormed .negateDst (.neg32X .r1 .r2) = false := by decide
theorem test_wf_negK_imm : Instr.wellFormed .negateDst (.neg64K .r1 5#32) = false ∧
    Instr.wellFormed .negateDst (.neg32K .r1 5#32) = false := by decide
theorem test_wf_negK_zero : Instr.wellFormed .negateDst (.neg64K .r1 0#32) = true ∧
    Instr.wellFormed .source (.neg64X .r1 .r2) = true := by decide

/-! ### Decoding: the `match` of the row in `spec/opcode_table.json` with operands put at the places of R61 -/

theorem test_decode_add64K : decode .source .source 0xffffffff00000107#64 none = .ok (.add64K .r1 0xffffffff#32) := by decide
theorem test_decode_add64X : decode .source .source 0x000000000000a90f#64 none = .ok (.add64X .r9 .r10) := by decide
theorem test_decode_sub64K : decode .source .source 0x8000000100000417#64 none = .ok (.sub64K .r4 0x80000001#32) := by decide
theorem test_decode_sub64X : decode .source .source 0x000000000000871f#64 none = .ok (.sub64X .r7 .r8) := by decide
theorem test_decode_mul64K : decode .source .source 0xffffffff00000027#64 none = .ok (.mul64K .r0 0xffffffff#32) := by decide
theorem test_decode_mul64X : decode .source .source 0x000000000000212f#64 none = .ok (.mul64X .r1 .r2) := by decide
theorem test_decode_div64K : decode .source .source 0x8000000100000937#64 none = .ok (.div64K .r9 0x80000001#32) := by decide
theorem test_decode_div64X : decode .source .source 0x000000000000543f#64 none = .ok (.div64X .r4 .r5) := by decide
theorem test_decode_or64K : decode .source .source 0xffffffff00000747#64 none = .ok (.or64K .r7 0xffffffff#32) := by decide
theorem test_decode_or64X : decode .source .source 0x000000000000304f#64 none = .ok (.or64X .r0 .r3) := by decide
theorem test_decode_and64K : decode .source .source 0x8000000100000157#64 none = .ok (.and64K .r1 0x80000001#32) := by decide
theorem test_decode_and64X : decode .source .source 0x000000000000a95f#64 none = .ok (.and64X .r9 .r10) := by decide
theorem test_decode_lsh64K : decode .source .source 0xffffffff00000467#64 none = .ok (.lsh64K .r4 0xffffffff#32) := by decide
theorem test_decode_lsh64X : decode .source .source 0x000000000000876f#64 none = .ok (.lsh64X .r7 .r8) := by decide
theorem test_decode_rsh64K : decode .source .source 0x8000000100000077#64 none = .ok (.rsh64K .r0 0x80000001#32) := by decide
theorem test_decode_rsh64X : decode .source .source 0x000000000000217f#64 none = .ok (.rsh64X .r1 .r2) := by decide
theorem test_decode_neg64K : decode .source .source 0xffffffff00000987#64 none = .ok (.neg64K .r9 0xffffffff#32) := by decide
theorem test_decode_neg64X : decode .source .source 0x000000000000548f#64 none = .ok (.neg64X .r4 .r5) := by decide
theorem test_decode_mod64K : decode .source .source 0x8000000100000797#64 none = .ok (.mod64K .r7 0x80000001#32) := by decide
theorem test_decode_mod64X : decode .source .source 0x000000000000309f#64 none = .ok (.mod64X .r0 .r3) := by decide
theorem test_decode_xor64K : decode .source .source 0xffffffff000001a7#64 none = .ok (.xor64K .r1 0xffffffff#32) := by decide
theorem test_decode_xor64X : decode .source .source 0x000000000000a9af#64 none = .ok (.xor64X .r9 .r10) := by decide
theorem test_decode_mov64K : decode .source .source 0x80000001000004b7#64 none = .ok (.mov64K .r4 0x80000001#32) := by decide
theorem test_decode_mov64X : decode .source .source 0x00000000000087bf#64 none = .ok (.mov64X .r7 .r8) := by decide
theorem test_decode_arsh64K : decode .source .source 0xffffffff000000c7#64 none = .ok (.arsh64K .r0 0xffffffff#32) := by decide
theorem test_decode_arsh64X : decode .source .source 0x00000000000021cf#64 none = .ok (.arsh64X .r1 .r2) := by decide
theorem test_decode_add32K : decode .source .source 0x8000000100000904#64 none = .ok (.add32K .r9 0x80000001#32) := by decide
theorem test_decode_add32X : decode .source .source 0x000000000000540c#64 none = .ok (.add32X .r4 .r5) := by decide
theorem test_decode_sub32K : decode .source .source 0xffffffff00000714#64 none = .ok (.sub32K .r7 0xffffffff#32) := by decide
theorem test_decode_sub32X : decode .source .source 0x000000000000301c#64 none = .ok (.sub32X .r0 .r3) := by decide
theorem test_decode_mul32K : decode .source .source 0x8000000100000124#64 none = .ok (.mul32K .r1 0x80000001#32) := by decide
theorem test_decode_mul32X : decode .source .source 0x000000000000a92c#64 none = .ok (.mul32X .r9 .r10) := by decide
theorem test_decode_div32K : decode .source .source 0xffffffff00000434#64 none = .ok (.div32K .r4 0xffffffff#32) := by decide
theorem test_decode_div32X : decode .source .source 0x000000000000873c#64 none = .ok (.div32X .r7 .r8) := by decide
theorem test_decode_or32K : decode .source .source 0x8000000100000044#64 none = .ok (.or32K .r0 0x80000001#32) := by decide
theorem test_decode_or32X : decode .source .source 0x000000000000214c#64 none = .ok (.or32X .r1 .r2) := by decide
theorem test_decode_and32K : decode .source .source 0xffffffff00000954#64 none = .ok (.and32K .r9 0xffffffff#32) := by decide
theorem test_decode_and32X : decode .source .source 0x000000000000545c#64 none = .ok (.and32X .r4 .r5) := by decide
theorem test_decode_lsh32K : decode .source .source 0x8000000100000764#64 none = .ok (.lsh32K .r7 0x80000001#32) := by decide
theorem test_decode_lsh32X : decode .source .source 0x000000000000306c#64 none = .ok (.lsh32X .r0 .r3) := by decide
theorem test_decode_rsh32K : decode .source .source 0xffffffff00000174#64 none = .ok (.rsh32K .r1 0xffffffff#32) := by decide
theorem test_decode_rsh32X : decode .source .source 0x000000000000a97c#64 none = .ok (.rsh32X .r9 .r10) := by decide
theorem test_decode_neg32K : decode .source .source 0x8000000100000484#64 none = .ok (.neg32K .r4 0x80000001#32) := by decide
theorem test_decode_neg32X : decode .source .source 0x000000000000878c#64 none = .ok (.neg32X .r7 .r8) := by decide
theorem test_decode_mod32K : decode .source .source 0xffffffff00000094#64 none = .ok (.mod32K .r0 0xffffffff#32) := by decide
theorem test_decode_mod32X : decode .source .source 0x000000000000219c#64 none = .ok (.mod32X .r1 .r2) := by decide
theorem test_decode_xor32K : decode .source .source 0x80000001000009a4#64 none = .ok (.xor32K .r9 0x80000001#32) := by decide
theorem test_decode_xor32X : decode .source .source 0x00000000000054ac#64 none = .ok (.xor32X .r4 .r5) := by decide
theorem test_decode_mov32K : decode .source .source 0xffffffff000007b4#64 none = .ok (.mov32K .r7 0xffffffff#32) := by decide
theorem test_decode_mov32X : decode .source .source 0x00000000000030bc#64 none = .ok (.mov32X .r0 .r3) := by decide
theorem test_decode_arsh32K : decode .source .source 0x80000001000001c4#64 none = .ok (.arsh32K .r1 0x80000001#32) := by decide
theorem test_decode_arsh32X : decode .source .source 0x000000000000a9cc#64 none = .ok (.arsh32X .r9 .r10) := by decide
theorem test_decode_le16 : decode .source .source 0x00000010000004d4#64 none = .ok (.le16 .r4) := by decide
theorem test_decode_le32 : decode .source .source 0x00000020000007d4#64 none = .ok (.le32 .r7) := by decide
theorem test_decode_le64 : decode .source .source 0x00000040000000d4#64 none = .ok (.le64 .r0) := by decide
theorem test_decode_be16 : decode .source .source 0x00000010000001dc#64 none = .ok (.be16 .r1) := by decide
theorem test_decode_be32 : decode .source .source 0x00000020000009dc#64 none = .ok (.be32 .r9) := by decide
theorem test_decode_be64 : decode .source .source 0x00000040000004dc#64 none = .ok (.be64 .r4) := by decide
theorem test_decode_ja : decode .source .source 0x0000000080010005#64 none = .ok (.ja 0x8001#16) := by decide
theorem test_decode_jeqK : decode .source .source 0x0000002a7ffe0015#64 none = .ok (.jeqK .r0 0x2a#32 0x7ffe#16) := by decide
theorem test_decode_jeqX : decode .source .source 0x00000000fff8211d#64 none = .ok (.jeqX .r1 .r2 0xfff8#16) := by decide
theorem test_decode_jgtK : decode .source .source 0x1234567800120925#64 none = .ok (.jgtK .r9 0x12345678#32 0x12#16) := by decide
theorem test_decode_jgtX : decode .source .source 0x000000008001542d#64 none = .ok (.jgtX .r4 .r5 0x8001#16) := by decide
theorem test_decode_jgeK : decode .source .source 0x0000002a7ffe0735#64 none = .ok (.jgeK .r7 0x2a#32 0x7ffe#16) := by decide
theorem test_decode_jgeX : decode .source .source 0x00000000fff8303d#64 none = .ok (.jgeX .r0 .r3 0xfff8#16) := by decide
theorem test_decode_jsetK : decode .source .source 0x1234567800120145#64 none = .ok (.jsetK .r1 0x12345678#32 0x12#16) := by decide
theorem test_decode_jsetX : decode .source .source 0x000000008001a94d#64 none = .ok (.jsetX .r9 .r10 0x8001#16) := by decide
theorem test_decode_jneK : decode .source .source 0x0000002a7ffe0455#64 none = .ok (.jneK .r4 0x2a#32 0x7ffe#16) := by decide
theorem test_decode_jneX : decode .source .source 0x00000000fff8875d#64 none = .ok (.jneX .r7 .r8 0xfff8#16) := by decide
theorem test_decode_jsgtK : decode .source .source 0x1234567800120065#64 none = .ok (.jsgtK .r0 0x12345678#32 0x12#16) := by decide
theorem test_decode_jsgtX : decode .source .source 0x000000008001216d#64 none = .ok (.jsgtX .r1 .r2 0x8001#16) := by decide
theorem test_decode_jsgeK : decode .source .source 0x0000002a7ffe0975#64 none = .ok (.jsgeK .r9 0x2a#32 0x7ffe#16) := by decide
theorem test_decode_jsgeX : decode .source .source 0x00000000fff8547d#64 none = .ok (.jsgeX .r4 .r5 0xfff8#16) := by decide
theorem test_decode_jltK : decode .source .source 0x12345678001207a5#64 none = .ok (.jltK .r7 0x12345678#32 0x12#16) := by decide
theorem test_decode_jltX : decode .source .source 0x00000000800130ad#64 none = .ok (.jltX .r0 .r3 0x8001#16) := by decide
theorem test_decode_jleK : decode .source .source 0x0000002a7ffe01b5#64 none = .ok (.jleK .r1 0x2a#32 0x7ffe#16) := by decide
theorem test_decode_jleX : decode .source .source 0x00000000fff8a9bd#64 none = .ok (.jleX .r9 .r10 0xfff8#16) := by decide
theorem test_decode_jsltK : decode .source .source 0x12345678001204c5#64 none = .ok (.jsltK .r4 0x12345678#32 0x12#16) := by decide
theorem test_decode_jsltX : decode .source .source 0x00000000800187cd#64 none = .ok (.jsltX .r7 .r8 0x8001#16) := by decide
theorem test_decode_jsleK : decode .source .source 0x0000002a7ffe00d5#64 none = .ok (.jsleK .r0 0x2a#32 0x7ffe#16) := by decide
theorem test_decode_jsleX : decode .source .source 0x00000000fff821dd#64 none = .ok (.jsleX .r1 .r2 0xfff8#16) := by decide
theorem test_decode_jeq32K : decode .source .source 0x1234567800120916#64 none = .ok (.jeq32K .r9 0x12345678#32 0x12#16) := by decide
theorem test_decode_jeq32X : decode .source .source 0x000000008001541e#64 none = .ok (.jeq32X .r4 .r5 0x8001#16) := by decide
theorem test_decode_jgt32K : decode .source .source 0x0000002a7ffe0726#64 none = .ok (.jgt32K .r7 0x2a#32 0x7ffe#16) := by decide
theorem test_decode_jgt32X : decode .source .source 0x00000000fff8302e#64 none = .ok (.jgt32X .r0 .r3 0xfff8#16) := by decide
theorem test_decode_jge32K : decode .source .source 0x1234567800120136#64 none = .ok (.jge32K .r1 0x12345678#32 0x12#16) := by decide
theorem test_decode_jge32X : decode .source .source 0x000000008001a93e#64 none = .ok (.jge32X .r9 .r10 0x8001#16) := by decide
theorem test_decode_jset32K : decode .source .source 0x0000002a7ffe0446#64 none = .ok (.jset32K .r4 0x2a#32 0x7ffe#16) := by decide
theorem test_decode_jset32X : decode .source .source 0x00000000fff8874e#64 none = .ok (.jset32X .r7 .r8 0xfff8#16) := by decide
theorem test_decode_jne32K : decode .source .source 0x1234567800120056#64 none = .ok (.jne32K .r0 0x12345678#32 0x12#16) := by decide
theorem test_decode_jne32X : decode .source .source 0x000000008001215e#64 none = .ok (.jne32X .r1 .r2 0x8001#16) := by decide
theorem test_decode_jsgt32K : decode .source .source 0x0000002a7ffe0966#64 none = .ok (.jsgt32K .r9 0x2a#32 0x7ffe#16) := by decide
theorem test_decode_jsgt32X : decode .source .source 0x00000000fff8546e#64 none = .ok (.jsgt32X .r4 .r5 0xfff8#16) := by decide
theorem test_decode_jsge32K : decode .source .source 0x1234567800120776#64 none = .ok (.jsge32K .r7 0x12345678#32 0x12#16) := by decide
theorem test_decode_jsge32X : decode .source .source 0x000000008001307e#64 none = .ok (.jsge32X .r0 .r3 0x8001#16) := by decide
theorem test_decode_jlt32K : decode .source .source 0x0000002a7ffe01a6#64 none = .ok (.jlt32K .r1 0x2a#32 0x7ffe#16) := by decide
theorem test_decode_jlt32X : decode .source .source 0x00000000fff8a9ae#64 none = .ok (.jlt32X .r9 .r10 0xfff8#16) := by decide
theorem test_decode_jle32K : decode .source .source 0x12345678001204b6#64 none = .ok (.jle32K .r4 0x12345678#32 0x12#16) := by decide
theorem test_decode_jle32X : decode .source .source 0x00000000800187be#64 none = .ok (.jle32X .r7 .r8 0x8001#16) := by decide
theorem test_decode_jslt32K : decode .source .source 0x0000002a7ffe00c6#64 none = .ok (.jslt32K .r0 0x2a#32 0x7ffe#16) := by decide
theorem test_decode_jslt32X : decode .source .source 0x00000000fff821ce#64 none = .ok (.jslt32X .r1 .r2 0xfff8#16) := by decide
theorem test_decode_jsle32K : decode .source .source 0x12345678001209d6#64 none = .ok (.jsle32K .r9 0x12345678#32 0x12#16) := by decide
theorem test_decode_jsle32X : decode .source .source 0x00000000800154de#64 none = .ok (.jsle32X .r4 .r5 0x8001#16) := by decide
theorem test_decode_call : decode .source .source 0x0000002a00000085#64 none = .ok (.call 0x2a#32) := by decide
theorem test_decode_exit : decode .source .source 0x0000000000000095#64 none = .ok (.exit) := by decide
theorem test_decode_stxw : decode .source .source 0x0000000000122163#64 none = .ok (.stxw .r1 .r2 0x12#16) := by decide
theorem test_decode_stxh : decode .source .source 0x000000008001a96b#64 none = .ok (.stxh .r9 .r10 0x8001#16) := by decide
theorem test_decode_stxb : decode .source .source 0x000000007ffe5473#64 none = .ok (.stxb .r4 .r5 0x7ffe#16) := by decide
theorem test_decode_stxdw : decode .source .source 0x00000000fff8877b#64 none = .ok (.stxdw .r7 .r8 0xfff8#16) := by decide
theorem test_decode_stw : decode .source .source 0x1234567800120062#64 none = .ok (.stw .r0 0x12#16 0x12345678#32) := by decide
theorem test_decode_sth : decode .source .source 0x800000018001016a#64 none = .ok (.sth .r1 0x8001#16 0x80000001#32) := by decide
theorem test_decode_stb : decode .source .source 0x0000002a7ffe0972#64 none = .ok (.stb .r9 0x7ffe#16 0x2a#32) := by decide
theorem test_decode_stdw : decode .source .source 0xfffffffffff8047a#64 none = .ok (.stdw .r4 0xfff8#16 0xffffffff#32) := by decide
theorem test_decode_ldxw : decode .source .source 0x0000000000128761#64 none = .ok (.ldxw .r7 .r8 0x12#16) := by decide
theorem test_decode_ldxh : decode .source .source 0x0000000080013069#64 none = .ok (.ldxh .r0 .r3 0x8001#16) := by decide
theorem test_decode_ldxb : decode .source .source 0x000000007ffe2171#64 none = .ok (.ldxb .r1 .r2 0x7ffe#16) := by decide
theorem test_decode_ldxdw : decode .source .source 0x00000000fff8a979#64 none = .ok (.ldxdw .r9 .r10 0xfff8#16) := by decide
theorem test_decode_atomicAdd32 : decode .source .source 0x00000000001254c3#64 none = .ok (.atomicAdd32 .r4 .r5 0x12#16) := by decide
theorem test_decode_atomicAdd64 : decode .source .source 0x00000000800187db#64 none = .ok (.atomicAdd64 .r7 .r8 0x8001#16) := by decide
theorem test_decode_atomicFetchAdd32 :
    decode .source .source 0x000000017ffe30c3#64 none = .ok (.atomicFetchAdd32 .r0 .r3 0x7ffe#16) := by decide
theorem test_decode_atomicFetchAdd64 :
    decode .source .source 0x00000001fff821db#64 none = .ok (.atomicFetchAdd64 .r1 .r2 0xfff8#16) := by decide
theorem test_decode_atomicOr32 : decode .source .source 0x00000040001239c3#64 none = .ok (.atomicOr32 .r9 .r3 0x12#16) := by decide
theorem test_decode_atomicOr64 : decode .source .source 0x00000040800154db#64 none = .ok (.atomicOr64 .r4 .r5 0x8001#16) := by decide
theorem test_decode_atomicFetchOr32 :
    decode .source .source 0x000000417ffe87c3#64 none = .ok (.atomicFetchOr32 .r7 .r8 0x7ffe#16) := by decide
theorem test_decode_atomicFetchOr64 :
    decode .source .source 0x00000041fff830db#64 none = .ok (.atomicFetchOr64 .r0 .r3 0xfff8#16) := by decide
theorem test_decode_atomicAnd32 : decode .source .source 0x00000050001221c3#64 none = .ok (.atomicAnd32 .r1 .r2 0x12#16) := by decide
theorem test_decode_atomicAnd64 : decode .source .source 0x00000050800139db#64 none = .ok (.atomicAnd64 .r9 .r3 0x8001#16) := by decide
theorem test_decode_atomicFetchAnd32 :
    decode .source .source 0x000000517ffe54c3#64 none = .ok (.atomicFetchAnd32 .r4 .r5 0x7ffe#16) := by decide
theorem test_decode_atomicFetchAnd64 :
    decode .source .source 0x00000051fff887db#64 none = .ok (.atomicFetchAnd64 .r7 .r8 0xfff8#16) := by decide
theorem test_decode_atomicXor32 : decode .source .source 0x000000a0001230c3#64 none = .ok (.atomicXor32 .r0 .r3 0x12#16) := by decide
theorem test_decode_atomicXor64 : decode .source .source 0x000000a0800121db#64 none = .ok (.atomicXor64 .r1 .r2 0x8001#16) := by decide
theorem test_decode_atomicFetchXor32 :
    decode .source .source 0x000000a17ffe39c3#64 none = .ok (.atomicFetchXor32 .r9 .r3 0x7ffe#16) := by decide
theorem test_decode_atomicFetchXor64 :
    decode .source .source 0x000000a1fff854db#64 none = .ok (.atomicFetchXor64 .r4 .r5 0xfff8#16) := by decide
theorem test_decode_atomicXchg32 : decode .source .source 0x000000e1001287c3#64 none = .ok (.atomicXchg32 .r7 .r8 0x12#16) := by decide
theorem test_decode_atomicXchg64 : decode .source .source 0x000000e1800130db#64 none = .ok (.atomicXchg64 .r0 .r3 0x8001#16) := by decide
theorem test_decode_atomicCmpxchg32 :
    decode .source .source 0x000000f17ffe21c3#64 none = .ok (.atomicCmpxchg32 .r1 .r2 0x7ffe#16) := by decide
theorem test_decode_atomicCmpxchg64 :
    decode .source .source 0x000000f1fff839db#64 none = .ok (.atomicCmpxchg64 .r9 .r3 0xfff8#16) := by decide
theorem test_decode_ldImm64 :
    decode .source .source 0x0000000000000418#64 (some 0x1122334455667788#64) = .ok (.ldImm64 .r4 0x1122334455667788#64) := by decide
theorem test_decode_ldAbs : decode .source .source 0xfedcba9876543220#64 none = .ok (.ldAbs .w 0xfedcba98765432#56) := by decide
theorem test_decode_ldInd : decode .source .source 0xfedcba9876543240#64 none = .ok (.ldInd .w 0xfedcba98765432#56) := by decide

/-! ### Words that are no instruction (`30_encoding.md` R77) -/

theorem test_illegal_zero_word : decode .source .source 0x0000000000000000#64 none = .error .illegal := by decide
theorem test_illegal_dst_11 : decode .source .source 0x0000000000001b63#64 none = .error .illegal := by decide
theorem test_illegal_unused_imm : decode .source .source 0x0000000100001061#64 none = .error .illegal := by decide
theorem test_illegal_unused_src : decode .source .source 0x0000000000001262#64 none = .error .illegal := by decide
theorem test_illegal_swap_width : decode .source .source 0x00000018000001d4#64 none = .error .illegal := by decide
theorem test_illegal_atomic_sub : decode .source .source 0x00000010000021c3#64 none = .error .illegal := by decide
theorem test_illegal_atomic_high_bit : decode .source .source 0x00000101000021db#64 none = .error .illegal := by decide
theorem test_illegal_atomic_half : decode .source .source 0x00000000000021cb#64 none = .error .illegal := by decide
theorem test_illegal_end_in_alu64 : decode .source .source 0x00000010000001d7#64 none = .error .illegal := by decide
theorem test_illegal_call_src : decode .source .source 0x0000000100001085#64 none = .error .illegal := by decide
theorem test_illegal_ja_in_jmp32 : decode .source .source 0x0000000000000006#64 none = .error .illegal := by decide
theorem test_illegal_jump_0xe5 : decode .source .source 0x00000000000000e5#64 none = .error .illegal := by decide
theorem test_illegal_wide_imm : decode .source .source 0x5566778800000118#64 (some 0x1122334400000000#64) = .error .illegal := by decide
theorem test_illegal_wide_low : decode .source .split 0x5566778800000118#64 (some 0x1122334400000001#64) = .error .illegal := by decide
theorem test_truncated : decode .source .source 0x0000000000000118#64 none = .error .truncatedWide := by decide

/-! ### One step -/

/-- The function of the spec's example of `call`: two arguments, their sum. -/
def sumFn : PlatformFn := { key := 1#32, arity := 2, outcomes := [{ ret := some (.op .add (.arg 0) (.arg 1)) }] }

/-- A function that returns no value for 0, and else the byte at its argument, which it replaces; it also tries a store past the stack. -/
def takeByteFn : PlatformFn :=
  { key := 8#32, arity := 1
    outcomes :=
      [{ guard := .op .eq (.arg 0) (.const 0#64), ret := none },
       { guard := .op .ult (.const 0#64) (.arg 0), ret := some (.mem (.arg 0) .b)
         stores := [⟨.arg 0, .b, .const 0x11#64⟩, ⟨.const 0x8000#64, .dw, .arg 0⟩] }] }

/-- The configuration of the spec's vectors, with unwritten registers reported. -/
def cfg : Config :=
  { Config.launchDefaults with
    regions := [⟨0x1000, 16, everySize [.read, .write]⟩, ⟨0x2000, 8, everySize [.read, .write, .atomic]⟩]
    callTable := [sumFn, takeByteFn]
    unwrittenRead := .fault }

/-- The same on a big-endian host. -/
def cfgBig : Config := { cfg with hostEndian := .big }

/-- The data memory of the vectors: 80 to 8f at 0x1000, and ff ff ff ff 01 00 00 00 at 0x2000. -/
def vectorMem : List Host.Cell :=
  ((List.range 16).map fun k => (0x1000 + k, BitVec.ofNat 8 (0x80 + k))) ++
    [(0x2000, 0xff#8), (0x2001, 0xff#8), (0x2002, 0xff#8), (0x2003, 0xff#8), (0x2004, 0x01#8), (0x2005, 0x00#8), (0x2006, 0x00#8),
     (0x2007, 0x00#8)]

/-- The memory of the big-endian atomic vectors. -/
def bigMem : List Host.Cell :=
  [(0x2000, 0x00#8), (0x2001, 0x00#8), (0x2002, 0x00#8), (0x2003, 0x01#8), (0x2004, 0xff#8), (0x2005, 0xff#8), (0x2006, 0xff#8),
   (0x2007, 0xff#8)]

/-- A launch of a program with some registers written, at a slot. -/
def atSlot (c : Config) (rs : List (Reg × Word)) (prog : List Word) (k : Nat) : State :=
  rs.foldl (fun s p => s.setReg p.1 p.2) { State.launch c prog vectorMem with pc := k }

/-- One word at slot 0. -/
def at0 (c : Config) (rs : List (Reg × Word)) (w : Word) : State := atSlot c rs [w] 0

/-- One word at slot 5, as in the vectors of the jumps. -/
def at5 (c : Config) (rs : List (Reg × Word)) (w : Word) : State := atSlot c rs (List.replicate 5 0#64 ++ [w]) 5

/-- A register and the program counter of a next state. -/
def observeReg (o : Out) (r : Reg) : Option (Word × Int) :=
  match o with
  | .next t => if t.isWritten r then some (t.regs.get r, t.pc) else none
  | .fault _ => none
  | .refused _ => none

/-- The program counter of a next state. -/
def observePc : Out → Option Int
  | .next t => some t.pc
  | .fault _ => none
  | .refused _ => none

/-- Eight bytes of memory of a next state. -/
def observeMem (o : Out) (a : Nat) : Option (List (Option Byte)) :=
  match o with
  | .next t => some ((List.range 8).map fun k => memByte? t.mem (a + k))
  | .fault _ => none
  | .refused _ => none

/-- A register and eight bytes of memory of a next state. -/
def observeBoth (o : Out) (r : Reg) (a : Nat) : Option (Word × List (Option Byte)) :=
  match o with
  | .next t => some (t.regs.get r, (List.range 8).map fun k => memByte? t.mem (a + k))
  | .fault _ => none
  | .refused _ => none

/-- The status of a next state. -/
def observeStatus : Out → Option Status
  | .next t => some t.status
  | .fault _ => none
  | .refused _ => none

/-- The fault a step ends in. -/
def faultOf : Out → Option Fault
  | .next _ => none
  | .fault f => some f
  | .refused _ => none

/-- The refusal a step ends in. -/
def refusalOf : Out → Option Refusal
  | .next _ => none
  | .fault _ => none
  | .refused r => some r

theorem test_add64K_1 : observeReg (step (at0 cfg [(.r1, 0xffffffffffffffff#64)] 0x0000000100000107#64)) .r1 = some (0x0#64, 1) := by decide
theorem test_add64K_2 :
    observeReg (step (at0 cfg [(.r1, 0x7fffffffffffffff#64)] 0x7fffffff00000107#64)) .r1 = some (0x800000007ffffffe#64, 1) := by decide
theorem test_add64X_1 :
    observeReg (step (at0 cfg [(.r1, 0xffffffff#64), (.r2, 0x1#64)] 0x000000000000210f#64)) .r1 = some (0x100000000#64, 1) := by decide
theorem test_add64X_2 : observeReg (step (at0 cfg [(.r1, 0x8000000000000001#64)] 0x000000000000110f#64)) .r1 = some (0x2#64, 1) := by decide
theorem test_sub64K_1 : observeReg (step (at0 cfg [(.r1, 0x0#64)] 0x0000000100000117#64)) .r1 = some (0xffffffffffffffff#64, 1) := by decide
theorem test_sub64K_2 : observeReg (step (at0 cfg [(.r1, 0x0#64)] 0xffffffff00000117#64)) .r1 = some (0x1#64, 1) := by decide
theorem test_sub64X_1 :
    observeReg (step (at0 cfg [(.r1, 0x3#64), (.r2, 0x5#64)] 0x000000000000211f#64)) .r1 = some (0xfffffffffffffffe#64, 1) := by decide
theorem test_mul64K_1 : observeReg (step (at0 cfg [(.r1, 0x8000000000000000#64)] 0x0000000200000127#64)) .r1 = some (0x0#64, 1) := by decide
theorem test_mul64K_2 : observeReg (step (at0 cfg [(.r1, 0x7#64)] 0xffffffff00000127#64)) .r1 = some (0xfffffffffffffff9#64, 1) := by decide
theorem test_mul64X_1 :
    observeReg (step (at0 cfg [(.r1, 0x100000001#64), (.r2, 0x100000001#64)] 0x000000000000212f#64)) .r1 = some (0x200000001#64, 1) := by decide
theorem test_div64K_1 : observeReg (step (at0 cfg [(.r1, 0x1234#64)] 0x0000000000000137#64)) .r1 = some (0x0#64, 1) := by decide
theorem test_div64K_2 :
    observeReg (step (at0 cfg [(.r1, 0xffffffffffffffff#64)] 0x0000000300000137#64)) .r1 = some (0x5555555555555555#64, 1) := by decide
theorem test_div64X_1 :
    observeReg (step (at0 cfg [(.r1, 0x64#64), (.r2, 0x0#64)] 0x000000000000213f#64)) .r1 = some (0x0#64, 1) := by decide
theorem test_div64X_2 :
    observeReg (step (at0 cfg [(.r1, 0x8000000000000000#64), (.r2, 0xffffffffffffffff#64)] 0x000000000000213f#64)) .r1 = some (0x0#64, 1) := by decide
theorem test_or64K_1 : observeReg (step (at0 cfg [(.r1, 0x0#64)] 0x8000000000000147#64)) .r1 = some (0xffffffff80000000#64, 1) := by decide
theorem test_or64X_1 :
    observeReg (step (at0 cfg [(.r1, 0xf0#64), (.r2, 0xf#64)] 0x000000000000214f#64)) .r1 = some (0xff#64, 1) := by decide
theorem test_and64K_1 :
    observeReg (step (at0 cfg [(.r1, 0x123456789abcdeff#64)] 0xfffffff000000157#64)) .r1 = some (0x123456789abcdef0#64, 1) := by decide
theorem test_and64K_2 :
    observeReg (step (at0 cfg [(.r1, 0xffffffffffffffff#64)] 0x7fffffff00000157#64)) .r1 = some (0x7fffffff#64, 1) := by decide
theorem test_and64X_1 :
    observeReg (step (at0 cfg [(.r1, 0xff00ff00ff00ff00#64), (.r2, 0xff00ff00ff00ff0#64)] 0x000000000000215f#64)) .r1 = some (0xf000f000f000f00#64, 1) := by decide
theorem test_lsh64K_1 : observeReg (step (at0 cfg [(.r1, 0x1#64)] 0x0000003f00000167#64)) .r1 = some (0x8000000000000000#64, 1) := by decide
theorem test_lsh64K_2 : observeReg (step (at0 cfg [(.r1, 0x1#64)] 0x0000004000000167#64)) .r1 = some (0x1#64, 1) := by decide
theorem test_lsh64X_1 :
    observeReg (step (at0 cfg [(.r1, 0x1#64), (.r2, 0x100000041#64)] 0x000000000000216f#64)) .r1 = some (0x2#64, 1) := by decide
theorem test_rsh64K_1 : observeReg (step (at0 cfg [(.r1, 0x8000000000000000#64)] 0x0000003f00000177#64)) .r1 = some (0x1#64, 1) := by decide
theorem test_rsh64K_2 : observeReg (step (at0 cfg [(.r1, 0x8000000000000000#64)] 0xffffffff00000177#64)) .r1 = some (0x1#64, 1) := by decide
theorem test_rsh64X_1 :
    observeReg (step (at0 cfg [(.r1, 0xffffffffffffffff#64), (.r2, 0x4#64)] 0x000000000000217f#64)) .r1 = some (0xfffffffffffffff#64, 1) := by decide
theorem test_neg64K_1 : observeReg (step (at0 cfg [] 0x0000000000000187#64)) .r1 = some (0xffffffffffffffff#64, 1) := by decide
theorem test_neg64K_2 : observeReg (step (at0 cfg [(.r1, 0x63#64)] 0xffffffff00000187#64)) .r1 = some (0x0#64, 1) := by decide
theorem test_neg64X_1 :
    observeReg (step (at0 cfg [(.r2, 0xffffffff#64)] 0x000000000000218f#64)) .r1 = some (0xffffffff00000000#64, 1) := by decide
theorem test_mod64K_1 :
    observeReg (step (at0 cfg [(.r1, 0xdeadbeefcafef00d#64)] 0x0000000000000197#64)) .r1 = some (0xdeadbeefcafef00d#64, 1) := by decide
theorem test_mod64K_2 : observeReg (step (at0 cfg [(.r1, 0xffffffffffffffff#64)] 0x0000000a00000197#64)) .r1 = some (0x5#64, 1) := by decide
theorem test_mod64X_1 :
    observeReg (step (at0 cfg [(.r1, 0x11#64), (.r2, 0x0#64)] 0x000000000000219f#64)) .r1 = some (0x11#64, 1) := by decide
theorem test_xor64K_1 :
    observeReg (step (at0 cfg [(.r1, 0x123456789abcdef#64)] 0xffffffff000001a7#64)) .r1 = some (0xfedcba9876543210#64, 1) := by decide
theorem test_xor64X_1 : observeReg (step (at0 cfg [(.r1, 0x55#64)] 0x00000000000011af#64)) .r1 = some (0x0#64, 1) := by decide
theorem test_mov64K_1 : observeReg (step (at0 cfg [] 0xffffffff000001b7#64)) .r1 = some (0xffffffffffffffff#64, 1) := by decide
theorem test_mov64K_2 : observeReg (step (at0 cfg [] 0x80000000000001b7#64)) .r1 = some (0xffffffff80000000#64, 1) := by decide
theorem test_mov64X_1 : observeReg (step (at0 cfg [] 0x000000000000a1bf#64)) .r1 = some (0x8000#64, 1) := by decide
theorem test_arsh64K_1 :
    observeReg (step (at0 cfg [(.r1, 0x8000000000000000#64)] 0x0000003f000001c7#64)) .r1 = some (0xffffffffffffffff#64, 1) := by decide
theorem test_arsh64K_2 :
    observeReg (step (at0 cfg [(.r1, 0x7ffffffffffffffe#64)] 0x00000001000001c7#64)) .r1 = some (0x3fffffffffffffff#64, 1) := by decide
theorem test_arsh64X_1 :
    observeReg (step (at0 cfg [(.r1, 0xfffffffffffffff0#64), (.r2, 0x44#64)] 0x00000000000021cf#64)) .r1 = some (0xffffffffffffffff#64, 1) := by decide
theorem test_add32K_1 : observeReg (step (at0 cfg [(.r1, 0xaaaaaaaaffffffff#64)] 0x0000000100000104#64)) .r1 = some (0x0#64, 1) := by decide
theorem test_add32K_2 : observeReg (step (at0 cfg [(.r1, 0xaaaaaaaa00000005#64)] 0xffffffff00000104#64)) .r1 = some (0x4#64, 1) := by decide
theorem test_add32X_1 :
    observeReg (step (at0 cfg [(.r1, 0x1111111180000000#64), (.r2, 0x2222222280000000#64)] 0x000000000000210c#64)) .r1 = some (0x0#64, 1) := by decide
theorem test_sub32K_1 : observeReg (step (at0 cfg [(.r1, 0x0#64)] 0x0000000100000114#64)) .r1 = some (0xffffffff#64, 1) := by decide
theorem test_sub32X_1 :
    observeReg (step (at0 cfg [(.r1, 0x3#64), (.r2, 0xffffffff00000005#64)] 0x000000000000211c#64)) .r1 = some (0xfffffffe#64, 1) := by decide
theorem test_mul32K_1 : observeReg (step (at0 cfg [(.r1, 0x10000#64)] 0x0001000000000124#64)) .r1 = some (0x0#64, 1) := by decide
theorem test_mul32X_1 :
    observeReg (step (at0 cfg [(.r1, 0xffffffff#64), (.r2, 0xffffffff#64)] 0x000000000000212c#64)) .r1 = some (0x1#64, 1) := by decide
theorem test_div32K_1 : observeReg (step (at0 cfg [(.r1, 0xaaaaaaaa00000007#64)] 0x0000000000000134#64)) .r1 = some (0x0#64, 1) := by decide
theorem test_div32K_2 :
    observeReg (step (at0 cfg [(.r1, 0xaaaaaaaa80000000#64)] 0x0000000200000134#64)) .r1 = some (0x40000000#64, 1) := by decide
theorem test_div32X_1 :
    observeReg (step (at0 cfg [(.r1, 0x64#64), (.r2, 0xffffffff00000000#64)] 0x000000000000213c#64)) .r1 = some (0x0#64, 1) := by decide
theorem test_or32K_1 :
    observeReg (step (at0 cfg [(.r1, 0xaaaaaaaa00000000#64)] 0x8000000000000144#64)) .r1 = some (0x80000000#64, 1) := by decide
theorem test_or32X_1 :
    observeReg (step (at0 cfg [(.r1, 0x1#64), (.r2, 0xffffffffffffffff#64)] 0x000000000000214c#64)) .r1 = some (0xffffffff#64, 1) := by decide
theorem test_and32K_1 :
    observeReg (step (at0 cfg [(.r1, 0xaaaaaaaa12345678#64)] 0xffffffff00000154#64)) .r1 = some (0x12345678#64, 1) := by decide
theorem test_and32X_1 :
    observeReg (step (at0 cfg [(.r1, 0xffffffffffffffff#64), (.r2, 0xffff0000ffff#64)] 0x000000000000215c#64)) .r1 = some (0xffff#64, 1) := by decide
theorem test_lsh32K_1 : observeReg (step (at0 cfg [(.r1, 0x1#64)] 0x0000001f00000164#64)) .r1 = some (0x80000000#64, 1) := by decide
theorem test_lsh32K_2 : observeReg (step (at0 cfg [(.r1, 0xaaaaaaaa00000001#64)] 0x0000002000000164#64)) .r1 = some (0x1#64, 1) := by decide
theorem test_lsh32X_1 :
    observeReg (step (at0 cfg [(.r1, 0x1#64), (.r2, 0x21#64)] 0x000000000000216c#64)) .r1 = some (0x2#64, 1) := by decide
theorem test_rsh32K_1 :
    observeReg (step (at0 cfg [(.r1, 0xffffffff80000000#64)] 0x0000000400000174#64)) .r1 = some (0x8000000#64, 1) := by decide
theorem test_rsh32X_1 :
    observeReg (step (at0 cfg [(.r1, 0x80000000#64), (.r2, 0x1f#64)] 0x000000000000217c#64)) .r1 = some (0x1#64, 1) := by decide
theorem test_neg32K_1 : observeReg (step (at0 cfg [] 0x0000000000000184#64)) .r1 = some (0xffffffff#64, 1) := by decide
theorem test_neg32X_1 :
    observeReg (step (at0 cfg [(.r2, 0x123456789abcdef0#64)] 0x000000000000218c#64)) .r1 = some (0x6543210f#64, 1) := by decide
theorem test_mod32K_1 :
    observeReg (step (at0 cfg [(.r1, 0xaaaaaaaa12345678#64)] 0x0000000000000194#64)) .r1 = some (0x12345678#64, 1) := by decide
theorem test_mod32K_2 : observeReg (step (at0 cfg [(.r1, 0xffffffff#64)] 0xffffffff00000194#64)) .r1 = some (0x0#64, 1) := by decide
theorem test_mod32X_1 :
    observeReg (step (at0 cfg [(.r1, 0xffffffffffffffff#64), (.r2, 0x100000000#64)] 0x000000000000219c#64)) .r1 = some (0xffffffff#64, 1) := by decide
theorem test_xor32K_1 :
    observeReg (step (at0 cfg [(.r1, 0x123456789abcdef#64)] 0xffffffff000001a4#64)) .r1 = some (0x76543210#64, 1) := by decide
theorem test_xor32X_1 : observeReg (step (at0 cfg [(.r1, 0xffffffffffffffff#64)] 0x00000000000011ac#64)) .r1 = some (0x0#64, 1) := by decide
theorem test_mov32K_1 : observeReg (step (at0 cfg [] 0xffffffff000001b4#64)) .r1 = some (0xffffffff#64, 1) := by decide
theorem test_mov32X_1 :
    observeReg (step (at0 cfg [(.r2, 0x123456789abcdef0#64)] 0x00000000000021bc#64)) .r1 = some (0x9abcdef0#64, 1) := by decide
theorem test_mov32X_2 :
    observeReg (step (at0 cfg [(.r1, 0xffffffffffffffff#64)] 0x00000000000011bc#64)) .r1 = some (0xffffffff#64, 1) := by decide
theorem test_arsh32K_1 : observeReg (step (at0 cfg [(.r1, 0x80000000#64)] 0x0000001f000001c4#64)) .r1 = some (0xffffffff#64, 1) := by decide
theorem test_arsh32K_2 :
    observeReg (step (at0 cfg [(.r1, 0xffffffff7fffffff#64)] 0x00000004000001c4#64)) .r1 = some (0x7ffffff#64, 1) := by decide
theorem test_arsh32X_1 :
    observeReg (step (at0 cfg [(.r1, 0xf0000000#64), (.r2, 0x24#64)] 0x00000000000021cc#64)) .r1 = some (0xff000000#64, 1) := by decide
theorem test_le16_1 :
    observeReg (step (at0 cfg [(.r1, 0x1122334455667788#64)] 0x00000010000001d4#64)) .r1 = some (0x7788#64, 1) := by decide
theorem test_le16_2 :
    observeReg (step (at0 cfgBig [(.r1, 0x1122334455667788#64)] 0x00000010000001d4#64)) .r1 = some (0x8877#64, 1) := by decide
theorem test_le32_1 :
    observeReg (step (at0 cfg [(.r1, 0x1122334455667788#64)] 0x00000020000001d4#64)) .r1 = some (0x55667788#64, 1) := by decide
theorem test_le32_2 :
    observeReg (step (at0 cfgBig [(.r1, 0x1122334455667788#64)] 0x00000020000001d4#64)) .r1 = some (0x88776655#64, 1) := by decide
theorem test_le64_1 :
    observeReg (step (at0 cfg [(.r1, 0x1122334455667788#64)] 0x00000040000001d4#64)) .r1 = some (0x1122334455667788#64, 1) := by decide
theorem test_le64_2 :
    observeReg (step (at0 cfgBig [(.r1, 0x1122334455667788#64)] 0x00000040000001d4#64)) .r1 = some (0x8877665544332211#64, 1) := by decide
theorem test_be16_1 :
    observeReg (step (at0 cfg [(.r1, 0x1122334455667788#64)] 0x00000010000001dc#64)) .r1 = some (0x8877#64, 1) := by decide
theorem test_be16_2 :
    observeReg (step (at0 cfgBig [(.r1, 0x1122334455667788#64)] 0x00000010000001dc#64)) .r1 = some (0x7788#64, 1) := by decide
theorem test_be32_1 :
    observeReg (step (at0 cfg [(.r1, 0x1122334455667788#64)] 0x00000020000001dc#64)) .r1 = some (0x88776655#64, 1) := by decide
theorem test_be32_2 :
    observeReg (step (at0 cfgBig [(.r1, 0x1122334455667788#64)] 0x00000020000001dc#64)) .r1 = some (0x55667788#64, 1) := by decide
theorem test_be64_1 :
    observeReg (step (at0 cfg [(.r1, 0x1122334455667788#64)] 0x00000040000001dc#64)) .r1 = some (0x8877665544332211#64, 1) := by decide
theorem test_be64_2 :
    observeReg (step (at0 cfgBig [(.r1, 0x1122334455667788#64)] 0x00000040000001dc#64)) .r1 = some (0x1122334455667788#64, 1) := by decide
theorem test_ja_1 : observePc (step (at5 cfg [] 0x0000000000030005#64)) = some 9 := by decide
theorem test_ja_2 : observePc (step (at5 cfg [] 0x00000000ffff0005#64)) = some 5 := by decide
theorem test_jeqK_1 : observePc (step (at5 cfg [(.r1, 0xffffffffffffffff#64)] 0xffffffff00020115#64)) = some 8 := by decide
theorem test_jeqK_2 : observePc (step (at5 cfg [(.r1, 0xffffffff#64)] 0xffffffff00020115#64)) = some 6 := by decide
theorem test_jeqX_1 : observePc (step (at5 cfg [(.r1, 0x100000000#64), (.r2, 0x0#64)] 0x000000000002211d#64)) = some 6 := by decide
theorem test_jgtK_1 : observePc (step (at5 cfg [(.r1, 0xffffffffffffffff#64)] 0xffffffff00020125#64)) = some 6 := by decide
theorem test_jgtK_2 : observePc (step (at5 cfg [(.r1, 0xffffffffffffffff#64)] 0x0000000100020125#64)) = some 8 := by decide
theorem test_jgtX_1 :
    observePc (step (at5 cfg [(.r1, 0x8000000000000000#64), (.r2, 0x7fffffffffffffff#64)] 0x000000000002212d#64)) = some 8 := by decide
theorem test_jgeK_1 : observePc (step (at5 cfg [(.r1, 0x0#64)] 0x0000000000020135#64)) = some 8 := by decide
theorem test_jgeX_1 : observePc (step (at5 cfg [(.r1, 0x1#64), (.r2, 0x2#64)] 0x000000000002213d#64)) = some 6 := by decide
theorem test_jsetK_1 : observePc (step (at5 cfg [(.r1, 0x100000000#64)] 0x8000000000020145#64)) = some 8 := by decide
theorem test_jsetX_1 : observePc (step (at5 cfg [(.r1, 0xf0#64), (.r2, 0xf#64)] 0x000000000002214d#64)) = some 6 := by decide
theorem test_jneK_1 : observePc (step (at5 cfg [(.r1, 0x100000000#64)] 0x0000000000020155#64)) = some 8 := by decide
theorem test_jneX_1 : observePc (step (at5 cfg [(.r1, 0x7#64)] 0x000000000002115d#64)) = some 6 := by decide
theorem test_jsgtK_1 : observePc (step (at5 cfg [(.r1, 0x0#64)] 0xffffffff00020165#64)) = some 8 := by decide
theorem test_jsgtK_2 : observePc (step (at5 cfg [(.r1, 0xffffffffffffffff#64)] 0x0000000100020165#64)) = some 6 := by decide
theorem test_jsgtX_1 : observePc (step (at5 cfg [(.r1, 0x7fffffff#64), (.r2, 0x80000000#64)] 0x000000000002216d#64)) = some 6 := by decide
theorem test_jsgeK_1 : observePc (step (at5 cfg [(.r1, 0xffffffffffffffff#64)] 0xffffffff00020175#64)) = some 8 := by decide
theorem test_jsgeX_1 : observePc (step (at5 cfg [(.r1, 0xffffffffffffffff#64), (.r2, 0x0#64)] 0x000000000002217d#64)) = some 6 := by decide
theorem test_jltK_1 : observePc (step (at5 cfg [(.r1, 0x0#64)] 0xffffffff000201a5#64)) = some 8 := by decide
theorem test_jltX_1 : observePc (step (at5 cfg [(.r1, 0x5#64), (.r2, 0x5#64)] 0x00000000000221ad#64)) = some 6 := by decide
theorem test_jleK_1 : observePc (step (at5 cfg [(.r1, 0x0#64)] 0x00000000000201b5#64)) = some 8 := by decide
theorem test_jleX_1 : observePc (step (at5 cfg [(.r1, 0xffffffffffffffff#64), (.r2, 0x0#64)] 0x00000000000221bd#64)) = some 6 := by decide
theorem test_jsltK_1 : observePc (step (at5 cfg [(.r1, 0x8000000000000000#64)] 0x00000000000201c5#64)) = some 8 := by decide
theorem test_jsltX_1 : observePc (step (at5 cfg [(.r1, 0x1#64), (.r2, 0xffffffffffffffff#64)] 0x00000000000221cd#64)) = some 6 := by decide
theorem test_jsleK_1 : observePc (step (at5 cfg [(.r1, 0x8000000000000000#64)] 0xffffffff000201d5#64)) = some 8 := by decide
theorem test_jsleX_1 : observePc (step (at5 cfg [(.r1, 0x7fffffff#64), (.r2, 0x80000000#64)] 0x00000000000221dd#64)) = some 8 := by decide
theorem test_jeq32K_1 : observePc (step (at5 cfg [(.r1, 0x12345678ffffffff#64)] 0xffffffff00020116#64)) = some 8 := by decide
theorem test_jeq32X_1 : observePc (step (at5 cfg [(.r1, 0x100000000#64), (.r2, 0x0#64)] 0x000000000002211e#64)) = some 8 := by decide
theorem test_jgt32K_1 : observePc (step (at5 cfg [(.r1, 0xffffffff#64)] 0xfffffffe00020126#64)) = some 8 := by decide
theorem test_jgt32X_1 : observePc (step (at5 cfg [(.r1, 0x0000000100000000#64), (.r2, 0x0#64)] 0x000000000002212e#64)) = some 6 := by decide
theorem test_jge32K_1 : observePc (step (at5 cfg [(.r1, 0xffffffff00000001#64)] 0x0000000200020136#64)) = some 6 := by decide
theorem test_jge32X_1 :
    observePc (step (at5 cfg [(.r1, 0x1ffffffff#64), (.r2, 0x200000000#64)] 0x000000000002213e#64)) = some 8 := by decide
theorem test_jset32K_1 : observePc (step (at5 cfg [(.r1, 0x100000000#64)] 0x8000000000020146#64)) = some 6 := by decide
theorem test_jset32X_1 :
    observePc (step (at5 cfg [(.r1, 0x0000000180000000#64), (.r2, 0x80000000#64)] 0x000000000002214e#64)) = some 8 := by decide
theorem test_jne32K_1 : observePc (step (at5 cfg [(.r1, 0x100000000#64)] 0x0000000000020156#64)) = some 6 := by decide
theorem test_jne32X_1 : observePc (step (at5 cfg [(.r1, 0x0000000100000007#64), (.r2, 0x7#64)] 0x000000000002215e#64)) = some 6 := by decide
theorem test_jsgt32K_1 : observePc (step (at5 cfg [(.r1, 0x0000000080000000#64)] 0xffffffff00020166#64)) = some 6 := by decide
theorem test_jsgt32X_1 : observePc (step (at5 cfg [(.r1, 0x7fffffff#64), (.r2, 0x80000000#64)] 0x000000000002216e#64)) = some 8 := by decide
theorem test_jsge32K_1 : observePc (step (at5 cfg [(.r1, 0x80000000#64)] 0x0000000000020176#64)) = some 6 := by decide
theorem test_jsge32X_1 :
    observePc (step (at5 cfg [(.r1, 0x00000000ffffffff#64), (.r2, 0x80000000#64)] 0x000000000002217e#64)) = some 8 := by decide
theorem test_jlt32K_1 : observePc (step (at5 cfg [(.r1, 0xffffffffffffffff#64)] 0xffffffff000201a6#64)) = some 6 := by decide
theorem test_jlt32X_1 : observePc (step (at5 cfg [(.r1, 0x0000000100000000#64), (.r2, 0x1#64)] 0x00000000000221ae#64)) = some 8 := by decide
theorem test_jle32K_1 : observePc (step (at5 cfg [(.r1, 0x0000000100000005#64)] 0x00000005000201b6#64)) = some 8 := by decide
theorem test_jle32X_1 : observePc (step (at5 cfg [(.r1, 0xffffffff00000000#64), (.r2, 0x0#64)] 0x00000000000221be#64)) = some 8 := by decide
theorem test_jslt32K_1 : observePc (step (at5 cfg [(.r1, 0x8000000000000000#64)] 0x00000000000201c6#64)) = some 6 := by decide
theorem test_jslt32X_1 :
    observePc (step (at5 cfg [(.r1, 0x0000000080000000#64), (.r2, 0x7fffffff#64)] 0x00000000000221ce#64)) = some 8 := by decide
theorem test_jsle32K_1 : observePc (step (at5 cfg [(.r1, 0x0000000080000000#64)] 0x7fffffff000201d6#64)) = some 8 := by decide
theorem test_jsle32X_1 : observePc (step (at5 cfg [(.r1, 0x7fffffff#64), (.r2, 0x80000000#64)] 0x00000000000221de#64)) = some 6 := by decide
theorem test_call_1 : refusalOf (step (at0 cfg [] 0x0000002a00000085#64)) = some (.unknownCall 42#32) := by decide
theorem test_call_2 : faultOf (step (at0 cfg [(.r1, 2#64)] 0x0000000100000085#64)) = some (.uninitRegister 0 .r2) := by decide
theorem test_exit_1 :
    observeStatus (step (at0 cfg [(.r0, 0xffffffff00000007#64)] 0x0000000000000095#64)) = some (.exited 0xffffffff00000007#64) := by decide
theorem test_exit_2 : faultOf (step (at0 cfg [] 0x0000000000000095#64)) = some (.uninitRegister 0 .r0) := by decide
theorem test_stxw_1 :
    observeMem (step (at0 cfg [(.r1, 0x1122334455667788#64), (.r2, 0x1000#64)] 0x0000000000001263#64)) 0x1000 = some [some 0x88#8, some 0x77#8, some 0x66#8, some 0x55#8, some 0x84#8, some 0x85#8, some 0x86#8, some 0x87#8] := by decide
theorem test_stxw_2 :
    faultOf (step (at0 cfg [(.r1, 0x1122334455667788#64), (.r2, 0x1000#64)] 0x00000000fdfc1a63#64)) = some (.memoryFault 0 0x7dfc#64 4 .write) := by decide
theorem test_stxh_1 :
    observeMem (step (at0 cfg [(.r1, 0x1122334455667788#64), (.r2, 0x1000#64)] 0x000000000000126b#64)) 0x1000 = some [some 0x88#8, some 0x77#8, some 0x82#8, some 0x83#8, some 0x84#8, some 0x85#8, some 0x86#8, some 0x87#8] := by decide
theorem test_stxh_2 :
    observeMem (step (at0 cfgBig [(.r1, 0x1122334455667788#64), (.r2, 0x1000#64)] 0x000000000000126b#64)) 0x1000 = some [some 0x77#8, some 0x88#8, some 0x82#8, some 0x83#8, some 0x84#8, some 0x85#8, some 0x86#8, some 0x87#8] := by decide
theorem test_stxb_1 :
    observeMem (step (at0 cfg [(.r1, 0x1122334455667788#64), (.r2, 0x1000#64)] 0x0000000000001273#64)) 0x1000 = some [some 0x88#8, some 0x81#8, some 0x82#8, some 0x83#8, some 0x84#8, some 0x85#8, some 0x86#8, some 0x87#8] := by decide
theorem test_stxb_2 :
    observeMem (step (at0 cfgBig [(.r1, 0x1122334455667788#64), (.r2, 0x1000#64)] 0x0000000000001273#64)) 0x1000 = some [some 0x88#8, some 0x81#8, some 0x82#8, some 0x83#8, some 0x84#8, some 0x85#8, some 0x86#8, some 0x87#8] := by decide
theorem test_stxdw_1 :
    observeMem (step (at0 cfg [(.r1, 0x1122334455667788#64), (.r2, 0x1000#64)] 0x000000000000127b#64)) 0x1000 = some [some 0x88#8, some 0x77#8, some 0x66#8, some 0x55#8, some 0x44#8, some 0x33#8, some 0x22#8, some 0x11#8] := by decide
theorem test_stxdw_2 :
    observeMem (step (at0 cfgBig [(.r1, 0x1122334455667788#64), (.r2, 0x1000#64)] 0x000000000000127b#64)) 0x1000 = some [some 0x11#8, some 0x22#8, some 0x33#8, some 0x44#8, some 0x55#8, some 0x66#8, some 0x77#8, some 0x88#8] := by decide
theorem test_stw_1 :
    observeMem (step (at0 cfg [(.r1, 0x1122334455667788#64), (.r2, 0x1000#64)] 0x8000000100040262#64)) 0x1000 = some [some 0x80#8, some 0x81#8, some 0x82#8, some 0x83#8, some 0x01#8, some 0x00#8, some 0x00#8, some 0x80#8] := by decide
theorem test_stw_2 :
    observeMem (step (at0 cfgBig [(.r1, 0x1122334455667788#64), (.r2, 0x1000#64)] 0x8000000100040262#64)) 0x1000 = some [some 0x80#8, some 0x81#8, some 0x82#8, some 0x83#8, some 0x80#8, some 0x00#8, some 0x00#8, some 0x01#8] := by decide
theorem test_sth_1 :
    observeMem (step (at0 cfg [(.r1, 0x1122334455667788#64), (.r2, 0x1000#64)] 0x123456780002026a#64)) 0x1000 = some [some 0x80#8, some 0x81#8, some 0x78#8, some 0x56#8, some 0x84#8, some 0x85#8, some 0x86#8, some 0x87#8] := by decide
theorem test_sth_2 :
    observeMem (step (at0 cfgBig [(.r1, 0x1122334455667788#64), (.r2, 0x1000#64)] 0x123456780002026a#64)) 0x1000 = some [some 0x80#8, some 0x81#8, some 0x56#8, some 0x78#8, some 0x84#8, some 0x85#8, some 0x86#8, some 0x87#8] := by decide
theorem test_stb_1 :
    observeMem (step (at0 cfg [(.r1, 0x1122334455667788#64), (.r2, 0x1000#64)] 0xffffffff00010272#64)) 0x1000 = some [some 0x80#8, some 0xff#8, some 0x82#8, some 0x83#8, some 0x84#8, some 0x85#8, some 0x86#8, some 0x87#8] := by decide
theorem test_stb_2 :
    observeMem (step (at0 cfgBig [(.r1, 0x1122334455667788#64), (.r2, 0x1000#64)] 0xffffffff00010272#64)) 0x1000 = some [some 0x80#8, some 0xff#8, some 0x82#8, some 0x83#8, some 0x84#8, some 0x85#8, some 0x86#8, some 0x87#8] := by decide
theorem test_stdw_1 :
    observeMem (step (at0 cfg [(.r1, 0x1122334455667788#64), (.r2, 0x1000#64)] 0x00000001fff80a7a#64)) 0x7ff8 = some [some 0x01#8, some 0x00#8, some 0x00#8, some 0x00#8, some 0x00#8, some 0x00#8, some 0x00#8, some 0x00#8] := by decide
theorem test_stdw_2 :
    observeMem (step (at0 cfgBig [(.r1, 0x1122334455667788#64), (.r2, 0x1000#64)] 0x800000010008027a#64)) 0x1008 = some [some 0xff#8, some 0xff#8, some 0xff#8, some 0xff#8, some 0x80#8, some 0x00#8, some 0x00#8, some 0x01#8] := by decide
theorem test_ldxw_1 : observeReg (step (at0 cfg [(.r1, 0x1000#64)] 0x0000000000041061#64)) .r0 = some (0x87868584#64, 1) := by decide
theorem test_ldxw_2 :
    faultOf (step (at0 cfg [(.r1, 0x1000#64)] 0x00000000000e1061#64)) = some (.misalignedAccess 0 0x100e#64 4) := by decide
theorem test_ldxh_1 : observeReg (step (at0 cfg [(.r1, 0x1000#64)] 0x0000000000021069#64)) .r0 = some (0x8382#64, 1) := by decide
theorem test_ldxh_2 : observeReg (step (at0 cfgBig [(.r1, 0x1000#64)] 0x0000000000021069#64)) .r0 = some (0x8283#64, 1) := by decide
theorem test_ldxb_1 : observeReg (step (at0 cfg [(.r1, 0x1000#64)] 0x0000000000001071#64)) .r0 = some (0x80#64, 1) := by decide
theorem test_ldxb_2 :
    faultOf (step (at0 cfg [(.r1, 0x1000#64)] 0x0000000000101071#64)) = some (.memoryFault 0 0x1010#64 1 .read) := by decide
theorem test_ldxdw_1 :
    observeReg (step (at0 cfg [(.r1, 0x1000#64)] 0x0000000000081079#64)) .r0 = some (0x8f8e8d8c8b8a8988#64, 1) := by decide
theorem test_ldxdw_2 :
    faultOf (step (at0 cfg [(.r1, 0x1000#64)] 0x00000000000c1079#64)) = some (.misalignedAccess 0 0x100c#64 8) := by decide
theorem test_atomicAdd32_1 :
    observeBoth (step (at0 cfg [(.r0, 0xaaaaaaaaffffffff#64), (.r1, 0x2000#64), (.r2, 0x1122334400000001#64)] 0x00000000000021c3#64)) .r2 0x2000 = some (0x1122334400000001#64, [some 0x00#8, some 0x00#8, some 0x00#8, some 0x00#8, some 0x01#8, some 0x00#8, some 0x00#8, some 0x00#8]) := by decide
theorem test_atomicAdd32_2 :
    faultOf (step (at0 cfg [(.r0, 0xaaaaaaaaffffffff#64), (.r1, 0x2000#64), (.r2, 0x1122334400000001#64)] 0x00000000000221c3#64)) = some (.misalignedAccess 0 0x2002#64 4) := by decide
theorem test_atomicAdd64_1 :
    observeBoth (step (at0 cfg [(.r0, 0xaaaaaaaaffffffff#64), (.r1, 0x2000#64), (.r2, 0x1122334400000001#64)] 0x00000000000021db#64)) .r2 0x2000 = some (0x1122334400000001#64, [some 0x00#8, some 0x00#8, some 0x00#8, some 0x00#8, some 0x46#8, some 0x33#8, some 0x22#8, some 0x11#8]) := by decide
theorem test_atomicAdd64_2 :
    faultOf (step (at0 cfg [(.r0, 0xaaaaaaaaffffffff#64), (.r1, 0x2000#64), (.r2, 0x1122334400000001#64)] 0x00000000000421db#64)) = some (.misalignedAccess 0 0x2004#64 8) := by decide
theorem test_atomicFetchAdd32_1 :
    observeBoth (step (at0 cfg [(.r0, 0xaaaaaaaaffffffff#64), (.r1, 0x2000#64), (.r2, 0x1122334400000001#64)] 0x00000001000021c3#64)) .r2 0x2000 = some (0xffffffff#64, [some 0x00#8, some 0x00#8, some 0x00#8, some 0x00#8, some 0x01#8, some 0x00#8, some 0x00#8, some 0x00#8]) := by decide
theorem test_atomicFetchAdd64_1 :
    observeBoth (step (at0 cfg [(.r0, 0xaaaaaaaaffffffff#64), (.r1, 0x2000#64), (.r2, 0x1122334400000001#64)] 0x00000001000021db#64)) .r2 0x2000 = some (0x1ffffffff#64, [some 0x00#8, some 0x00#8, some 0x00#8, some 0x00#8, some 0x46#8, some 0x33#8, some 0x22#8, some 0x11#8]) := by decide
theorem test_atomicFetchAdd64_2 :
    observeBoth (step { at0 cfgBig [(.r0, 0xaaaaaaaaffffffff#64), (.r1, 0x2000#64), (.r2, 0x1122334400000001#64)] 0x00000001000021db#64 with mem := bigMem }) .r2 0x2000 = some (0x1ffffffff#64, [some 0x11#8, some 0x22#8, some 0x33#8, some 0x46#8, some 0x00#8, some 0x00#8, some 0x00#8, some 0x00#8]) := by decide
theorem test_atomicOr32_1 :
    observeBoth (step (at0 cfg [(.r0, 0xaaaaaaaaffffffff#64), (.r1, 0x2000#64), (.r2, 0x1122334400000001#64)] 0x00000040000021c3#64)) .r2 0x2000 = some (0x1122334400000001#64, [some 0xff#8, some 0xff#8, some 0xff#8, some 0xff#8, some 0x01#8, some 0x00#8, some 0x00#8, some 0x00#8]) := by decide
theorem test_atomicOr64_1 :
    observeBoth (step (at0 cfg [(.r0, 0xaaaaaaaaffffffff#64), (.r1, 0x2000#64), (.r2, 0x1122334400000001#64)] 0x00000040000021db#64)) .r2 0x2000 = some (0x1122334400000001#64, [some 0xff#8, some 0xff#8, some 0xff#8, some 0xff#8, some 0x45#8, some 0x33#8, some 0x22#8, some 0x11#8]) := by decide
theorem test_atomicFetchOr32_1 :
    observeBoth (step (at0 cfg [(.r0, 0xaaaaaaaaffffffff#64), (.r1, 0x2000#64), (.r2, 0x1122334400000001#64)] 0x00000041000021c3#64)) .r2 0x2000 = some (0xffffffff#64, [some 0xff#8, some 0xff#8, some 0xff#8, some 0xff#8, some 0x01#8, some 0x00#8, some 0x00#8, some 0x00#8]) := by decide
theorem test_atomicFetchOr64_1 :
    observeBoth (step (at0 cfg [(.r0, 0xaaaaaaaaffffffff#64), (.r1, 0x2000#64), (.r2, 0x1122334400000001#64)] 0x00000041000021db#64)) .r2 0x2000 = some (0x1ffffffff#64, [some 0xff#8, some 0xff#8, some 0xff#8, some 0xff#8, some 0x45#8, some 0x33#8, some 0x22#8, some 0x11#8]) := by decide
theorem test_atomicAnd32_1 :
    observeBoth (step (at0 cfg [(.r0, 0xaaaaaaaaffffffff#64), (.r1, 0x2000#64), (.r2, 0x1122334400000001#64)] 0x00000050000021c3#64)) .r2 0x2000 = some (0x1122334400000001#64, [some 0x01#8, some 0x00#8, some 0x00#8, some 0x00#8, some 0x01#8, some 0x00#8, some 0x00#8, some 0x00#8]) := by decide
theorem test_atomicAnd64_1 :
    observeBoth (step (at0 cfg [(.r0, 0xaaaaaaaaffffffff#64), (.r1, 0x2000#64), (.r2, 0x1122334400000001#64)] 0x00000050000021db#64)) .r2 0x2000 = some (0x1122334400000001#64, [some 0x01#8, some 0x00#8, some 0x00#8, some 0x00#8, some 0x00#8, some 0x00#8, some 0x00#8, some 0x00#8]) := by decide
theorem test_atomicFetchAnd32_1 :
    observeBoth (step (at0 cfg [(.r0, 0xaaaaaaaaffffffff#64), (.r1, 0x2000#64), (.r2, 0x1122334400000001#64)] 0x00000051000021c3#64)) .r2 0x2000 = some (0xffffffff#64, [some 0x01#8, some 0x00#8, some 0x00#8, some 0x00#8, some 0x01#8, some 0x00#8, some 0x00#8, some 0x00#8]) := by decide
theorem test_atomicFetchAnd64_1 :
    observeBoth (step (at0 cfg [(.r0, 0xaaaaaaaaffffffff#64), (.r1, 0x2000#64), (.r2, 0x1122334400000001#64)] 0x00000051000021db#64)) .r2 0x2000 = some (0x1ffffffff#64, [some 0x01#8, some 0x00#8, some 0x00#8, some 0x00#8, some 0x00#8, some 0x00#8, some 0x00#8, some 0x00#8]) := by decide
theorem test_atomicXor32_1 :
    observeBoth (step (at0 cfg [(.r0, 0xaaaaaaaaffffffff#64), (.r1, 0x2000#64), (.r2, 0x1122334400000001#64)] 0x000000a0000021c3#64)) .r2 0x2000 = some (0x1122334400000001#64, [some 0xfe#8, some 0xff#8, some 0xff#8, some 0xff#8, some 0x01#8, some 0x00#8, some 0x00#8, some 0x00#8]) := by decide
theorem test_atomicXor64_1 :
    observeBoth (step (at0 cfg [(.r0, 0xaaaaaaaaffffffff#64), (.r1, 0x2000#64), (.r2, 0x1122334400000001#64)] 0x000000a0000021db#64)) .r2 0x2000 = some (0x1122334400000001#64, [some 0xfe#8, some 0xff#8, some 0xff#8, some 0xff#8, some 0x45#8, some 0x33#8, some 0x22#8, some 0x11#8]) := by decide
theorem test_atomicFetchXor32_1 :
    observeBoth (step (at0 cfg [(.r0, 0xaaaaaaaaffffffff#64), (.r1, 0x2000#64), (.r2, 0x1122334400000001#64)] 0x000000a1000021c3#64)) .r2 0x2000 = some (0xffffffff#64, [some 0xfe#8, some 0xff#8, some 0xff#8, some 0xff#8, some 0x01#8, some 0x00#8, some 0x00#8, some 0x00#8]) := by decide
theorem test_atomicFetchXor64_1 :
    observeBoth (step (at0 cfg [(.r0, 0xaaaaaaaaffffffff#64), (.r1, 0x2000#64), (.r2, 0x1122334400000001#64)] 0x000000a1000021db#64)) .r2 0x2000 = some (0x1ffffffff#64, [some 0xfe#8, some 0xff#8, some 0xff#8, some 0xff#8, some 0x45#8, some 0x33#8, some 0x22#8, some 0x11#8]) := by decide
theorem test_atomicXchg32_1 :
    observeBoth (step (at0 cfg [(.r0, 0xaaaaaaaaffffffff#64), (.r1, 0x2000#64), (.r2, 0x1122334400000001#64)] 0x000000e1000021c3#64)) .r2 0x2000 = some (0xffffffff#64, [some 0x01#8, some 0x00#8, some 0x00#8, some 0x00#8, some 0x01#8, some 0x00#8, some 0x00#8, some 0x00#8]) := by decide
theorem test_atomicXchg64_1 :
    observeBoth (step (at0 cfg [(.r0, 0xaaaaaaaaffffffff#64), (.r1, 0x2000#64), (.r2, 0x1122334400000001#64)] 0x000000e1000021db#64)) .r2 0x2000 = some (0x1ffffffff#64, [some 0x01#8, some 0x00#8, some 0x00#8, some 0x00#8, some 0x44#8, some 0x33#8, some 0x22#8, some 0x11#8]) := by decide
theorem test_atomicCmpxchg32_1 :
    observeBoth (step (at0 cfg [(.r0, 0xaaaaaaaaffffffff#64), (.r1, 0x2000#64), (.r2, 0x1122334400000001#64)] 0x000000f1000021c3#64)) .r0 0x2000 = some (0xffffffff#64, [some 0x01#8, some 0x00#8, some 0x00#8, some 0x00#8, some 0x01#8, some 0x00#8, some 0x00#8, some 0x00#8]) := by decide
theorem test_atomicCmpxchg32_2 :
    observeBoth (step (at0 cfg [(.r0, 0xfffffffe#64), (.r1, 0x2000#64), (.r2, 0x1122334400000001#64)] 0x000000f1000021c3#64)) .r0 0x2000 = some (0xffffffff#64, [some 0xff#8, some 0xff#8, some 0xff#8, some 0xff#8, some 0x01#8, some 0x00#8, some 0x00#8, some 0x00#8]) := by decide
theorem test_atomicCmpxchg64_1 :
    observeBoth (step (at0 cfg [(.r0, 0x1ffffffff#64), (.r1, 0x2000#64), (.r2, 0x1122334400000001#64)] 0x000000f1000021db#64)) .r0 0x2000 = some (0x1ffffffff#64, [some 0x01#8, some 0x00#8, some 0x00#8, some 0x00#8, some 0x44#8, some 0x33#8, some 0x22#8, some 0x11#8]) := by decide
theorem test_atomicCmpxchg64_2 :
    observeBoth (step (at0 cfg [(.r0, 0x1ffffffff#64), (.r1, 0x2000#64), (.r2, 0x1122334400000001#64)] 0x000000f1000001db#64)) .r0 0x2000 = some (0x1ffffffff#64, [some 0xff#8, some 0xff#8, some 0xff#8, some 0xff#8, some 0x01#8, some 0x00#8, some 0x00#8, some 0x00#8]) := by decide
theorem test_ldImm64_1 :
    observeReg (step (atSlot cfg [] [0x0000000000000118#64, 0x1122334455667788#64] 0)) .r1 = some (0x1122334455667788#64, 2) := by decide
theorem test_ldImm64_2 :
    observeReg (step (atSlot { cfg with imm64Form := .split } [] [0x5566778800000118#64, 0x1122334400000000#64] 0)) .r1 =
      some (0x1122334455667788#64, 2) := by decide
theorem test_ldAbs_1 : refusalOf (step (at0 cfg [] 0xffffffffffffff20#64)) = some .legacyPacketAccess := by decide
theorem test_ldInd_1 : refusalOf (step (at0 cfg [] 0x0000000000000058#64)) = some .legacyPacketAccess := by decide

/-! ### The program text (`20_memory.md` R55) -/

theorem test_bytes_leastFirst :
    programOfBytes .leastFirst [0x55#8, 0x01#8, 0xfd#8, 0xff#8, 0x00#8, 0x00#8, 0x00#8, 0x00#8] = some [0x00000000fffd0155#64] := by decide
theorem test_bytes_opcodeFirst :
    programOfBytes .opcodeFirst [0x7b#8, 0xa6#8, 0xff#8, 0xf8#8, 0x01#8, 0x02#8, 0x03#8, 0x04#8] = some [0x01020304fff86a7b#64] := by decide
/-- A layout of another platform, given for one word: the bytes 1 to 8 in reverse order. -/
theorem test_bytes_table :
    programOfBytes (.table [(0x0807060504030201#64, 0x0102030405060708#64)])
      [0x01#8, 0x02#8, 0x03#8, 0x04#8, 0x05#8, 0x06#8, 0x07#8, 0x08#8] = some [0x0102030405060708#64] := by decide
theorem test_launch_bytes :
    (State.launchBytes cfg [0x95#8, 0x00#8, 0x00#8, 0x00#8, 0x00#8, 0x00#8, 0x00#8, 0x00#8] []).map (·.prog) =
      some [0x0000000000000095#64] := by decide
theorem test_bytes_partial_slot : programOfBytes .leastFirst [0x95#8, 0x00#8] = none := by decide

/-! ### One step: parameters and faults -/

theorem test_negateDst : observeReg (step (at0 { cfg with negReading := .negateDst } [(.r1, 1#64)] 0x0000000000000187#64)) .r1 =
    some (0xffffffffffffffff#64, 1) := by decide
theorem test_negateDst32 : observeReg (step (at0 { cfg with negReading := .negateDst } [(.r1, 0xaaaaaaaa00000001#64)] 0x0000000000000184#64)) .r1 =
    some (0x00000000ffffffff#64, 1) := by decide
theorem test_negateDst_X_illegal : faultOf (step (at0 { cfg with negReading := .negateDst } [(.r2, 1#64)] 0x000000000000218f#64)) =
    some (.illegalInstruction 0 0x000000000000218f#64) := by decide
theorem test_shift_refuse : refusalOf (step (at0 { cfg with shiftPolicy := .refuse } [(.r1, 1#64)] 0x0000004000000167#64)) =
    some .shiftCount := by decide
theorem test_shift_refuse_in_range : observeReg (step (at0 { cfg with shiftPolicy := .refuse } [(.r1, 1#64)] 0x0000003f00000167#64)) .r1 =
    some (0x8000000000000000#64, 1) := by decide
theorem test_any_unaligned_store :
    observeMem (step (at0 { cfg with alignPolicy := .any } [(.r1, 0x1122334455667788#64), (.r2, 0x1000#64)] 0x0000000000021263#64)) 0x1000 =
      some [some 0x80#8, some 0x81#8, some 0x88#8, some 0x77#8, some 0x66#8, some 0x55#8, some 0x86#8, some 0x87#8] := by decide
theorem test_any_past_region : faultOf (step (at0 { cfg with alignPolicy := .any } [(.r1, 0x1000#64)] 0x00000000000e1061#64)) =
    some (.memoryFault 0 0x100e#64 4 .read) := by decide
theorem test_wrap_past_top : faultOf (step (at0 { cfg with alignPolicy := .any } [(.r1, 0#64)] 0x00000000ffff1061#64)) =
    some (.memoryFault 0 0xffffffffffffffff#64 4 .read) := by decide
theorem test_big_atomic :
    observeBoth (step { at0 cfgBig [(.r1, 0x2000#64), (.r2, 0x1122334400000001#64)] 0x00000001000021db#64 with mem := bigMem }) .r2 0x2000 =
      some (0x1ffffffff#64, [some 0x11#8, some 0x22#8, some 0x33#8, some 0x46#8, some 0x00#8, some 0x00#8, some 0x00#8, some 0x00#8]) := by
  decide
theorem test_off_the_end : faultOf (step (atSlot cfg [] [0x00000001000000b7#64] 1)) = some (.pcOutOfRange 1) := by decide
theorem test_into_wide : faultOf (step (atSlot cfg [] [0x0000000000010005#64, 0x0000000000000118#64, 0x0000000000000095#64] 2)) =
    some (.jumpIntoWide 2) := by decide
theorem test_truncated_step : faultOf (step (atSlot cfg [] [0x00000000000000b7#64, 0x0000000000000118#64] 1)) =
    some (.truncatedWide 1) := by decide
theorem test_write_r10 : faultOf (step (at0 cfg [] 0x0000000000000ab7#64)) = some (.illegalInstruction 0 0x0000000000000ab7#64) := by decide
theorem test_dst_checked_first : faultOf (step (at0 cfg [] 0x000000000000210f#64)) = some (.uninitRegister 0 .r1) := by decide
theorem test_misaligned_before_memory : faultOf (step (at0 cfg [(.r1, 0x5000#64)] 0x0000000000011061#64)) =
    some (.misalignedAccess 0 0x5001#64 4) := by decide
theorem test_ended_run : faultOf (step { at0 cfg [] 0x0000000000000095#64 with status := .exited 0#64 }) = some .notRunning := by decide


/-! ### Admission that depends on the size and the kind (`20_memory.md` R44) -/

/-- At 0x3000 a doubleword may be read and nothing else; at 0x4000 only an atomic operation is admitted. -/
def cfgOdd : Config := { cfg with regions := [⟨0x3000, 8, [(.read, 8)]⟩, ⟨0x4000, 8, everySize [.atomic]⟩] }

theorem test_admits_doubleword_not_byte : admits cfgOdd .read 0x3000 8 = true ∧ admits cfgOdd .read 0x3000 1 = false ∧
    admits cfgOdd .write 0x3000 8 = false := by decide
theorem test_atomic_without_read : observePc (step (at0 cfgOdd [(.r1, 0x4000#64), (.r2, 1#64)] 0x00000000000021db#64)) = some 1 ∧
    faultOf (step (at0 cfgOdd [(.r1, 0x4000#64)] 0x0000000000001079#64)) = some (.memoryFault 0 0x4000#64 8 .read) :=
  ⟨by decide, by decide⟩

/-! ### Calls of functions that the launch gives (`43_jump.md` R175 and its example) -/

/-- The state after the example's `call 1` with 2, 3 and 9 in R1, R2 and R6. -/
def afterSum : Out := step (at0 cfg [(.r1, 2#64), (.r2, 3#64), (.r6, 9#64)] 0x0000000100000085#64)

theorem test_call_sum : observeReg afterSum .r0 = some (5#64, 1) ∧ observeReg afterSum .r6 = some (9#64, 1) ∧
    ([Reg.r1, .r2, .r3, .r4, .r5].map (observeReg afterSum)).all (· == none) = true := by decide
/-- A value returned and a byte stored, the store past the stack not done; and the other outcome of the same function: no value. -/
theorem test_call_outcomes : observeReg (step (at0 cfg [(.r1, 0x1000#64)] 0x0000000800000085#64)) .r0 = some (0x80#64, 1) ∧
    observeMem (step (at0 cfg [(.r1, 0x1000#64)] 0x0000000800000085#64)) 0x1000 =
      some [some 0x11#8, some 0x81#8, some 0x82#8, some 0x83#8, some 0x84#8, some 0x85#8, some 0x86#8, some 0x87#8] ∧
    observeMem (step (at0 cfg [(.r1, 0x1000#64)] 0x0000000800000085#64)) 0x8000 = some (List.replicate 8 none) ∧
    observePc (step (at0 cfg [(.r0, 7#64), (.r1, 0#64)] 0x0000000800000085#64)) = some 1 ∧
    observeReg (step (at0 cfg [(.r0, 7#64), (.r1, 0#64)] 0x0000000800000085#64)) .r0 = none :=
  ⟨by decide, by decide, by decide, by decide, by decide⟩

/-- From reset, a word placed for the fetch is what the next step runs. -/
theorem test_reset_runs_placed_word : observeReg (step (State.reset.withFetchWord 64 0xffffffff000001b7)) .r1 =
    some (0xffffffffffffffff#64, 1) := by decide
theorem test_reset_runs_placed_wide_word : observePc (step (State.reset.withFetchWord 64 0x0000000000000118)) = some 2 := by decide
theorem test_table_word : decodeTableWord 64 0x00000000000c0105 = none ∧ decodeTableWord 64 0x00000000000c0005 = some (.ja 12#16) := by decide

/-! ### Witnesses: for each statement with hypotheses, a state and operands that meet them -/

/-- Three registers written: an address at the top of the stack, a value, and zero. -/
def someRegs : List (Reg × Word) := [(.r0, 7#64), (.r1, 0x7ff8#64), (.r2, 0xffffffff80000000#64), (.r3, 0#64), (.r9, 0x40#64)]

/-- A running state of one word. -/
def here (w : Word) : State := at0 cfg someRegs w

/-- A state that answers a next state to an instruction. -/
def goesOn (i : Instr) (s : State) : Bool :=
  match exec i s with
  | .next _ => true
  | .fault _ => false
  | .refused _ => false

theorem goesOn_next {i : Instr} {s : State} (h : goesOn i s = true) : ∃ t, exec i s = .next t := by
  unfold goesOn at h
  split at h
  · exact ⟨_, ‹_›⟩
  · cases h
  · cases h

/-- A state that answers a next state to a step. -/
def stepsOn (s : State) : Bool :=
  match step s with
  | .next _ => true
  | .fault _ => false
  | .refused _ => false

theorem stepsOn_next {s : State} (h : stepsOn s = true) : ∃ t, step s = .next t := by
  unfold stepsOn at h
  split at h
  · exact ⟨_, ‹_›⟩
  · cases h
  · cases h

theorem faultOf_fault {o : Out} {f : Fault} (h : faultOf o = some f) : o = .fault f := by
  cases o <;> simp_all [faultOf]

theorem refusalOf_refused {o : Out} {r : Refusal} (h : refusalOf o = some r) : o = .refused r := by
  cases o <;> simp_all [refusalOf]

theorem witness_DecodeInvertsEncode : Instr.wellFormed .negateDst (.neg64K .r9 0#32) = true ∧
    Instr.wellFormed .source (.neg32X .r0 .r10) = true ∧ Instr.wellFormed .source (.ldImm64 .r9 0xffffffffffffffff#64) = true ∧
    Instr.wellFormed .negateDst (.ldInd .dw 0xffffffffffffff#56) = true := by decide

theorem witness_EncodeInvertsDecode :
    decodeWords .source .split [0x5566778800000618#64, 0x1122334400000000#64, 5#64] = some (.ok (.ldImm64 .r6 0x1122334455667788#64, [5#64])) ∧
    decodeWords .negateDst .source [0x0000000000000984#64] = some (.ok (.neg32K .r9 0#32, [])) := by decide

theorem witness_ReservedOpcodeBytesAreIllegal :
    reservedOpcode (fieldsOf 0x00000000000000ff#64).op = true ∧ reservedOpcode (fieldsOf 0#64).op = true ∧
    reservedOpcode 0xdf#8 = true ∧ reservedOpcode 0x04#8 = false ∧ reservedOpcode 0xdd#8 = false := by decide

theorem witness_AtomicSelectorsAreTheTen :
    (fieldsOf 0x00000101000021db#64).op = 0xdb#8 ∧ (fieldsOf 0x000000e0000021c3#64).op = 0xc3#8 ∧
    (fieldsOf 0x00000101000021db#64).imm ∉
      [0x00#32, 0x01#32, 0x40#32, 0x41#32, 0x50#32, 0x51#32, 0xa0#32, 0xa1#32, 0xe1#32, 0xf1#32] ∧
    (fieldsOf 0x000000e0000021c3#64).imm ∉
      [0x00#32, 0x01#32, 0x40#32, 0x41#32, 0x50#32, 0x51#32, 0xa0#32, 0xa1#32, 0xe1#32, 0xf1#32] ∧ Reg.r9 ≠ Reg.r10 := by decide

theorem witness_StepRunsDecodedInstruction :
    (here 0x0000000100000107#64).status = .running ∧ (here 0x0000000100000107#64).pc = ((0 : Nat) : Int) ∧
    (here 0x0000000100000107#64).prog[0]? = some 0x0000000100000107#64 ∧ isSecondSlot (here 0x0000000100000107#64).prog 0 = false ∧
    decode (here 0x0000000100000107#64).cfg.negReading (here 0x0000000100000107#64).cfg.imm64Form 0x0000000100000107#64
      (here 0x0000000100000107#64).prog[1]? = .ok (.add64K .r1 1#32) := by decide

/-- Below slot 0, at the length, on a second slot, at an illegal word, and at a wide word cut off. -/
theorem witness_FetchFaults :
    ({ atSlot cfg [] [] 0 with pc := -1 } : State).pc < 0 ∧ (([] : List Word).length : Int) ≤ (atSlot cfg [] [] 0).pc ∧
    (atSlot cfg [] [] 0).status = .running ∧
    (isSecondSlot [0x0000000000000118#64, 5#64] 1 = true ∧ [0x0000000000000118#64, 5#64][1]? = some 5#64) ∧
    decode .source .source 0#64 none = .error .illegal ∧ isSecondSlot [0#64] 0 = false ∧
    decode .source .source 0x0000000000000118#64 (some 0#64) = .ok (.ldImm64 .r1 0#64) ∧ isWideWord 0x0000000000000118#64 = true ∧
    0 + 1 = [0x0000000000000118#64].length := by decide

theorem witness_SecondSlotsAreFoundByScanning :
    [0x0000000000000118#64, 0x0000000000000018#64, 5#64][1]? = some 0x0000000000000018#64 ∧
    [0x0000000000000118#64, 0x0000000000000018#64, 5#64][2]? = some 5#64 := by decide

theorem witness_EndedRunHasNoSuccessor :
    ({ here 0#64 with status := .exited 0#64 } : State).status ≠ .running ∧
    ({ here 0#64 with status := .faulted (.pcOutOfRange 1) } : State).status ≠ .running ∧
    ({ here 0#64 with status := .refused .shiftCount } : State).status ≠ .running := by decide

theorem witness_SettledFaultKeepsTheState :
    step (here 0#64) = .fault (.illegalInstruction 0 0#64) ∧ step (here 0x20#64) = .refused .legacyPacketAccess :=
  ⟨faultOf_fault (by decide), refusalOf_refused (by decide)⟩

/-- An argument register that the platform writes. -/
theorem witness_LaunchState : ({ r1 := some 0x1000#64, r5 := some 0#64 } : EntryArgs).r5 = some 0#64 ∧
    (State.launch { cfg with entryArgs := { r5 := some 0#64 } } [] []).isWritten .r5 = true := by decide

theorem witness_ResetMeetsInvariant : Memory.wf vectorMem = true ∧ Memory.wf [(2 ^ 64 - 1, 0#8)] = true := by decide

theorem witness_StepKeepsInvariant : ∃ s t : State, s.Inv ∧ s.mem ≠ [] ∧ step s = .next t :=
  let ⟨t, h⟩ := stepsOn_next (s := here 0x00000001fff80a7a#64) (by decide)
  ⟨_, t, by decide, by decide, h⟩

theorem witness_StepKeepsProgramAndConfiguration : ∃ s t : State, step s = .next t :=
  let ⟨t, h⟩ := stepsOn_next (s := here 0x0000000000000095#64) (by decide)
  ⟨_, t, h⟩

/-- A register that is not written, and R10, which never is. -/
theorem witness_RegisterFrame : (∃ t, exec (.atomicFetchAdd64 .r1 .r2 0#16) (here 0#64) = .next t) ∧
    Reg.r1 ∉ writtenRegs (.atomicFetchAdd64 .r1 .r2 0#16) ∧ Reg.r6 ∉ writtenRegs (.call 1#32) :=
  ⟨goesOn_next (by decide), by decide, by decide⟩

/-- A store at the top of the stack, an atomic, a load and a form without access. -/
theorem witness_MemoryFrame : (∃ t, exec (.stxdw .r1 .r2 0#16) (here 0#64) = .next t) ∧
    (∃ t, exec (.atomicXor64 .r1 .r2 0#16) (here 0#64) = .next t) ∧ (∃ t, exec (.ldxb .r4 .r1 7#16) (here 0#64) = .next t) ∧
    (∃ t, exec (.mov64K .r9 0#32) (here 0#64) = .next t) ∧ ∀ imm, Instr.stxdw .r1 .r2 0#16 ≠ .call imm :=
  ⟨goesOn_next (by decide), goesOn_next (by decide), goesOn_next (by decide), goesOn_next (by decide), by simp⟩

/-- A call that returns, and the first byte past the stack. -/
theorem witness_CallMemoryFrame : (∃ t, exec (.call 1#32) (here 0#64) = .next t) ∧
    ∀ (a : Nat) (z : Size), a ≤ 0x8000 → 0x8000 < a + sizeBytes z →
      admits (here 0#64).cfg .write a (sizeBytes z) = false ∧ admits (here 0#64).cfg .atomic a (sizeBytes z) = false := by
  refine ⟨goesOn_next (by decide), fun a z h1 h2 => ?_⟩
  have hc : (here 0#64).cfg = cfg := rfl
  rw [hc]
  cases z <;> simp [admits, inStack, inRange, regionAdmits, cfg, Config.launchDefaults, sizeBytes] at * <;> omega

theorem witness_OnlyExitEndsARunNormally : (∃ t, exec (.call 1#32) (here 0#64) = .next t) ∧ Instr.call 1#32 ≠ .exit :=
  ⟨goesOn_next (by decide), by decide⟩

/-- A wide instruction, a jump back to slot 0, and `exit`. -/
theorem witness_ProgramCounterAdvance : (∃ t, exec (.ldImm64 .r9 0#64) (here 0#64) = .next t) ∧
    (∃ t, exec (.jeqX .r3 .r3 0xffff#16) (here 0#64) = .next t) ∧ ∃ t, exec .exit (here 0#64) = .next t :=
  ⟨goesOn_next (by decide), goesOn_next (by decide), goesOn_next (by decide)⟩

/-- The state with another shift policy. -/
def refusing : State := at0 { cfg with shiftPolicy := .refuse } someRegs 0#64

theorem witness_RefusalsAreTheSpecs : exec (.ldAbs .b 0#56) (here 0#64) = .refused .legacyPacketAccess ∧
    exec (.call 2#32) (here 0#64) = .refused (.unknownCall 2#32) ∧ exec (.lsh64X .r1 .r9) refusing = .refused .shiftCount ∧
    64 ≤ srcNat64 refusing (.reg .r9) ∧ exec (.arsh32K .r1 32#32) refusing = .refused .shiftCount ∧
    32 ≤ srcNat32 refusing (.imm 32#32) :=
  ⟨refusalOf_refused (by decide), refusalOf_refused (by decide), refusalOf_refused (by decide), by decide,
    refusalOf_refused (by decide), by decide⟩

theorem witness_FaultsAreTheSpecs :
    exec (.mov64K .r10 0#32) (here 0#64) = .fault (.illegalInstruction 0 0x0000000000000ab7#64) ∧
    exec (.mov64X .r0 .r4) (here 0#64) = .fault (.uninitRegister 0 .r4) ∧
    exec (.call 1#32) (at0 cfg [(.r1, 0#64)] 0#64) = .fault (.uninitRegister 0 .r2) ∧
    exec (.ldxdw .r0 .r1 1#16) (here 0#64) = .fault (.misalignedAccess 0 0x7ff9#64 8) ∧
    exec (.ldxdw .r0 .r1 8#16) (here 0#64) = .fault (.memoryFault 0 0x8000#64 8 .read) :=
  ⟨faultOf_fault (by decide), faultOf_fault (by decide), faultOf_fault (by decide), faultOf_fault (by decide),
    faultOf_fault (by decide)⟩

theorem witness_WritingR10IsIllegal : (Instr.atomicXchg64 .r1 .r10 0#16).wellFormed (here 0#64).cfg.negReading = false ∧
    Reg.r10 ∈ writtenRegs (.atomicXchg64 .r1 .r10 0#16) := by decide

/-- The second register is the first unwritten one; and the negation under the other reading. -/
theorem witness_UnwrittenOperandFaults : (Instr.add64X .r1 .r4).wellFormed (here 0#64).cfg.negReading = true ∧
    (readRegList (here 0#64).cfg.negReading (.add64X .r1 .r4)).find? (fun q => !(here 0#64).readable q) = some .r4 ∧
    (readRegList .negateDst (.neg64K .r4 0#32)).find? (fun q => !(here 0#64).readable q) = some .r4 := by decide

theorem witness_UnwrittenRegistersAreDrawnOtherwise :
    State.reset.cfg.unwrittenRead = .draw ∧ State.reset.isWritten .r9 = false ∧ Reg.r9 ≠ Reg.r10 ∧
    (State.reset.setReg .r0 0#64).cfg.unwrittenRead = .draw ∧ (State.reset.setReg .r0 0#64).isWritten .r0 = true := by decide

/-- The operands of the arithmetic statements: a register and an immediate, R0 and R9 as destinations. -/
theorem witness_arithmetic : Reg.r9 ≠ Reg.r10 ∧ (here 0#64).readable .r9 = true ∧ Reg.r0 ≠ Reg.r10 ∧ (here 0#64).readable .r0 = true ∧
    srcReadable (here 0#64) (.reg .r10) ∧ srcReadable (here 0#64) (.imm 0x80000000#32) :=
  ⟨by decide, by decide, by decide, by decide, by unfold srcReadable; decide, trivial⟩

theorem witness_Alu64Results : Reg.r9 ≠ Reg.r10 ∧ (here 0#64).readable .r9 = true ∧ srcReadable (here 0#64) (.reg .r10) :=
  ⟨witness_arithmetic.1, witness_arithmetic.2.1, witness_arithmetic.2.2.2.2.1⟩

/-- A zero divisor, and one that is not. -/
theorem witness_Division64IsUnsignedAndTotal : Reg.r9 ≠ Reg.r10 ∧ (here 0#64).readable .r9 = true ∧ srcReadable (here 0#64) (.imm 0#32) ∧
    srcNat64 (here 0#64) (.imm 0#32) = 0 ∧ srcNat64 (here 0#64) (.imm 0xffffffff#32) = 2 ^ 64 - 1 :=
  ⟨by decide, by decide, trivial, by decide, by decide⟩

theorem witness_Modulo64IsUnsignedAndTotal : Reg.r9 ≠ Reg.r10 ∧ (here 0#64).readable .r9 = true ∧ srcReadable (here 0#64) (.reg .r3) ∧
    srcNat64 (here 0#64) (.reg .r3) = 0 ∧ srcNat64 (here 0#64) (.reg .r2) ≠ 0 :=
  ⟨by decide, by decide, by unfold srcReadable; decide, by decide, by decide⟩

/-- The greatest count below the width, the width under each policy. -/
theorem witness_Shift64Results : Reg.r9 ≠ Reg.r10 ∧ (here 0#64).readable .r9 = true ∧ srcReadable (here 0#64) (.imm 64#32) ∧
    ((here 0#64).cfg.shiftPolicy = .mask ∧ 0 = srcNat64 (here 0#64) (.imm 64#32) % 64) ∧
    (refusing.cfg.shiftPolicy = .refuse ∧ 63 = srcNat64 refusing (.imm 63#32) ∧ srcNat64 refusing (.imm 63#32) < 64) ∧
    64 ≤ srcNat64 refusing (.reg .r9) :=
  ⟨by decide, by decide, trivial, by decide, by decide, by decide⟩

theorem witness_Shift32Results : Reg.r9 ≠ Reg.r10 ∧ (here 0#64).readable .r9 = true ∧ srcReadable (here 0#64) (.imm 32#32) ∧
    ((here 0#64).cfg.shiftPolicy = .mask ∧ 0 = srcNat32 (here 0#64) (.imm 32#32) % 32) ∧
    (refusing.cfg.shiftPolicy = .refuse ∧ 31 = srcNat32 refusing (.imm 31#32) ∧ srcNat32 refusing (.imm 31#32) < 32) ∧
    32 ≤ srcNat32 refusing (.imm 32#32) :=
  ⟨by decide, by decide, trivial, by decide, by decide, by decide⟩

/-- The state under the other reading of `BPF_NEG`. -/
def negating : State := at0 { cfg with negReading := .negateDst } someRegs 0#64

theorem witness_Neg64Results : Reg.r9 ≠ Reg.r10 ∧ (here 0#64).cfg.negReading = .source ∧ srcReadable (here 0#64) (.imm 0#32) ∧
    negating.cfg.negReading = .negateDst ∧ negating.readable .r9 = true :=
  ⟨by decide, by decide, trivial, by decide, by decide⟩

theorem witness_Neg32Results : Reg.r3 ≠ Reg.r10 ∧ (here 0#64).cfg.negReading = .source ∧ srcReadable (here 0#64) (.reg .r10) ∧
    negating.cfg.negReading = .negateDst ∧ negating.readable .r3 = true :=
  ⟨by decide, by decide, by unfold srcReadable; decide, by decide, by decide⟩

theorem witness_Alu32Results : Reg.r0 ≠ Reg.r10 ∧ (here 0#64).readable .r0 = true ∧ srcReadable (here 0#64) (.imm 0x80000000#32) :=
  ⟨witness_arithmetic.2.2.1, witness_arithmetic.2.2.2.1, witness_arithmetic.2.2.2.2.2⟩

/-- An unwritten destination is no obstacle to a move. -/
theorem witness_MoveResults : Reg.r4 ≠ Reg.r10 ∧ (here 0#64).isWritten .r4 = false ∧ srcReadable (here 0#64) (.reg .r10) :=
  ⟨by decide, by decide, by unfold srcReadable; decide⟩

theorem witness_ByteSwapResults : Reg.r2 ≠ Reg.r10 ∧ (here 0#64).readable .r2 = true ∧ (here 0#64).cfg.hostEndian = .little ∧
    (at0 cfgBig someRegs 0#64).readable .r2 = true ∧ (at0 cfgBig someRegs 0#64).cfg.hostEndian = .big := by decide

/-- Equal operands, and an immediate whose sign extension differs from its zero extension. -/
theorem witness_ConditionalJumps64 : (here 0#64).readable .r2 = true ∧ srcReadable (here 0#64) (.imm 0x80000000#32) ∧
    ((here 0#64).value 0 .r2).toNat = srcNat64 (here 0#64) (.imm 0x80000000#32) ∧
    ((here 0#64).value 0 .r3).toNat ≠ srcNat64 (here 0#64) (.imm 0x80000000#32) :=
  ⟨by decide, trivial, by decide, by decide⟩

theorem witness_ConditionalJumps32 : (here 0#64).readable .r2 = true ∧ srcReadable (here 0#64) (.imm 0x80000000#32) ∧
    ((here 0#64).value 0 .r2).toNat % 2 ^ 32 = srcNat32 (here 0#64) (.imm 0x80000000#32) ∧
    ((here 0#64).value 0 .r3).toNat % 2 ^ 32 ≠ srcNat32 (here 0#64) (.imm 0x80000000#32) :=
  ⟨by decide, trivial, by decide, by decide⟩

theorem witness_CallCompletes : findFn 1#32 (here 0#64).cfg.callTable = some sumFn ∧
    ∀ r ∈ argRegs sumFn, (here 0#64).readable r = true := by decide

theorem witness_CallStops : findFn 2#32 (here 0#64).cfg.callTable = none ∧
    findFn 1#32 (at0 cfg [(.r1, 0#64)] 0#64).cfg.callTable = some sumFn ∧
    (argRegs sumFn).find? (fun q => !(at0 cfg [(.r1, 0#64)] 0#64).readable q) = some .r2 := by decide

theorem witness_ExitReportsAllOfR0 : (here 0#64).readable .r0 = true ∧ (here 0#64).isWritten .r0 = true ∧
    State.reset.readable .r0 = true ∧ State.reset.isWritten .r0 = false := by decide

/-- The last doubleword of the stack and its last byte. -/
theorem witness_LoadResults : Reg.r9 ≠ Reg.r10 ∧ (here 0#64).readable .r1 = true ∧
    aligned cfg .read 0x7ff8 8 = true ∧ admits cfg .read 0x7ff8 8 = true ∧ aligned cfg .read 0x7ffc 4 = true ∧
    admits cfg .read 0x7ffc 4 = true ∧ aligned cfg .read 0x7ffe 2 = true ∧ admits cfg .read 0x7ffe 2 = true ∧
    aligned cfg .read 0x7fff 1 = true ∧ admits cfg .read 0x7fff 1 = true ∧
    (effectiveAddress ((here 0#64).value 0 .r1) 7#16).toNat = 0x7fff ∧ (here 0#64).cfg = cfg := by decide

/-- The first bytes of the stack, of each size. -/
theorem witness_StoreResults : (here 0#64).readable .r1 = true ∧ (here 0#64).readable .r10 = true ∧
    (effectiveAddress ((here 0#64).value 0 .r10) 0xfe00#16).toNat = 0x7e00 ∧
    aligned cfg .write 0x7e00 8 = true ∧ admits cfg .write 0x7e00 8 = true ∧ aligned cfg .write 0x7e00 4 = true ∧
    admits cfg .write 0x7e00 4 = true ∧ aligned cfg .write 0x7e00 2 = true ∧ admits cfg .write 0x7e00 2 = true ∧
    aligned cfg .write 0x7e00 1 = true ∧ admits cfg .write 0x7e00 1 = true := by decide

theorem witness_AtomicResults : (here 0#64).readable .r1 = true ∧ (here 0#64).readable .r2 = true ∧
    (effectiveAddress ((here 0#64).value 0 .r1) 0#16).toNat = 0x7ff8 ∧ aligned cfg .atomic 0x7ff8 8 = true ∧
    admits cfg .atomic 0x7ff8 8 = true ∧ (effectiveAddress ((here 0#64).value 0 .r1) 4#16).toNat = 0x7ffc ∧
    aligned cfg .atomic 0x7ffc 4 = true ∧ admits cfg .atomic 0x7ffc 4 = true := by decide

/-- The base register may be the one that receives the old value. -/
theorem witness_AtomicFetchAndExchangeResults : Reg.r1 ≠ Reg.r10 ∧ (here 0#64).readable .r1 = true ∧
    (effectiveAddress ((here 0#64).value 0 .r1) 0#16).toNat = 0x7ff8 ∧ aligned cfg .atomic 0x7ff8 8 = true ∧
    admits cfg .atomic 0x7ff8 8 = true ∧ aligned cfg .atomic 0x7ff8 4 = true ∧ admits cfg .atomic 0x7ff8 4 = true := by decide

/-- An old value that equals R0 at 32 bits and not at 64, and one that equals it at 64. -/
theorem witness_CompareExchangeResults :
    let s := at0 cfg [(.r0, 0xaaaaaaaaffffffff#64), (.r1, 0x2000#64), (.r2, 1#64)] 0#64
    let s' := at0 cfg [(.r0, 0x00000001ffffffff#64), (.r1, 0x2000#64), (.r2, 1#64)] 0#64
    s.readable .r1 = true ∧ s.readable .r2 = true ∧ s.readable .r0 = true ∧ aligned s.cfg .atomic 0x2000 8 = true ∧
    admits s.cfg .atomic 0x2000 8 = true ∧ aligned s.cfg .atomic 0x2000 4 = true ∧ admits s.cfg .atomic 0x2000 4 = true ∧
    s.load 0x2000#64 .w = lowBits .w (s.value 2 .r0) ∧ s.load 0x2000#64 .dw ≠ lowBits .dw (s.value 2 .r0) ∧
    s'.load 0x2000#64 .dw = lowBits .dw (s'.value 2 .r0) := by decide

/-- Misaligned by one; and aligned at the first doubleword past the stack. -/
theorem witness_AccessFaultOrder : accessForm (.atomicAdd64 .r1 .r2 8#16) = some (.atomic, .r1, 8#16, .dw) ∧
    (Instr.atomicAdd64 .r1 .r2 8#16).wellFormed (here 0#64).cfg.negReading = true ∧
    (∀ r ∈ readRegList (here 0#64).cfg.negReading (.atomicAdd64 .r1 .r2 8#16), (here 0#64).readable r = true) ∧
    aligned cfg .atomic (effectiveAddress ((here 0#64).value 0 .r1) 8#16).toNat 8 = true ∧
    admits cfg .atomic (effectiveAddress ((here 0#64).value 0 .r1) 8#16).toNat 8 = false ∧
    aligned cfg .atomic (effectiveAddress ((here 0#64).value 0 .r1) 9#16).toNat 8 = false := by decide

theorem witness_NarrowReadAfterWideWrite : 0 ≤ 8 ∧ 8 ≤ 8 ∧ 4 ≤ 8 := by decide

theorem witness_LegacyPacketLoadsAreRefused :
    (fieldsOf 0xffffffffffffff20#64).op ∈ [0x20#8, 0x28#8, 0x30#8, 0x38#8, 0x40#8, 0x48#8, 0x50#8, 0x58#8] ∧
    (fieldsOf 0x58#64).op ∈ [0x20#8, 0x28#8, 0x30#8, 0x38#8, 0x40#8, 0x48#8, 0x50#8, 0x58#8] := by decide

/-- An access of the largest size that ends at the top of the address space, and one past it. -/
theorem witness_EveryAdmissionPredicateIsALaunch : 8 ∈ [1, 2, 4, 8] ∧ (2 ^ 64 - 8) + 8 ≤ 2 ^ 64 ∧ ¬ (2 ^ 64 - 7) + 8 ≤ 2 ^ 64 := by decide

/-- The calls of the function of two alternatives, of which one applies each time. -/
theorem witness_CallOutcomesAreThoseOfTheRelation :
    admittedOutcomes cfg ⟨8#32, [0x1000#64], vectorMem, 0⟩ takeByteFn ≠ [] ∧
    admittedOutcomes cfg ⟨8#32, [0#64], vectorMem, 0⟩ takeByteFn = [⟨none, []⟩] ∧
    evalFn cfg ⟨1#32, [2#64, 3#64], [], 0⟩ (.const 1#64) ≠ 0#64 := by decide

/-- No argument, and five. -/
theorem witness_EveryFiniteRelationIsAFunction : (⟨1#32, [], [], 0⟩ : CallSite).args.length = (0 : Fin 6).val ∧
    (⟨1#32, [1#64, 2#64, 3#64, 4#64, 5#64], [], 0⟩ : CallSite).args.length = (5 : Fin 6).val := by decide

end Sys2Proof.Tests
end

section
/-! Proofs of the family `00_scope`: the invariant of the machine is kept by every step, and instructions without an encoding are
illegal. -/

namespace Sys2Proof.Machine

/-! ### The invariant and the operations on the state -/

/-- Writing a register keeps the invariant: `setReg` never changes R10 (`10_state.md` R22). -/
theorem State.Inv.setReg {s : State} (h : s.Inv) (r : Reg) (v : Word) : (s.setReg r v).Inv :=
  ⟨h.1, (RegFile.get_r10_set s.regs r v).trans h.2⟩

/-- The end of a step changes neither memory nor a register. -/
theorem State.Inv.advance {s : State} (h : s.Inv) (n : Int) : (s.advance n).Inv := h

theorem State.Inv.branch {s : State} (h : s.Inv) (taken : Bool) (off : BitVec 16) : (s.branch taken off).Inv := h

theorem State.Inv.exited {s : State} (h : s.Inv) (v : Word) : (s.exited v).Inv := h

/-- A store of an admitted access keeps the invariant: it does not pass the top of the address space (`20_memory.md` R52). -/
theorem State.Inv.store {s : State} (h : s.Inv) {kind : AccessKind} {a : Word} {z : Size}
    (ha : admits s.cfg kind a.toNat (sizeBytes z) = true) (v : Word) : (s.store a z v).Inv :=
  ⟨wf_memWrite (admits_le ha) _ _ h.1, h.2⟩

/-- The return of a called function keeps the invariant: only its permitted stores take place, and R6 to R10 are kept
(`43_jump.md` R175). -/
theorem State.Inv.afterCall {s : State} (h : s.Inv) (o : CallOutcome) : (s.afterCall o).Inv := by
  obtain ⟨hmem, hr10⟩ := h
  have hget : (s.afterCall o).regs.get .r10 = s.regs.get .r10 := State.afterCall_get (by decide) s o
  refine ⟨?_, ?_⟩
  · rw [State.afterCall_mem]
    exact wf_callMemory _ _ hmem
  · rw [hget, State.afterCall_cfg, hr10]

/-- Every shape of a next state keeps the invariant. -/
theorem NextShape.inv {i : Instr} {s t : State} (hshape : NextShape i s t) (h : s.Inv) : t.Inv := by
  cases hshape with
  | wroteReg d v => exact (h.setReg d v).advance 1
  | wroteWide d v => exact (h.setReg d v).advance 2
  | branched taken off => exact h.branch taken off
  | stored _ _ _ _ v _ _ _ hm => exact (h.store hm v).advance 1
  | storedWrote _ _ _ v d old _ _ _ hm => exact ((h.store hm v).setReg d old).advance 1
  | compared _ _ _ d old => exact (h.setReg d old).advance 1
  | called _ o => exact h.afterCall o
  | exited v => exact h.exited v

/-- Settles O16: a next state has one of the shapes of `NextShape`, and each of them keeps the invariant. -/
theorem stepKeepsInvariant : Obligations.StepKeepsInvariant := by
  intro s t hinv hstep
  obtain ⟨_, -, hexec⟩ := step_next hstep
  exact (exec_nextShape hexec).inv hinv

/-! ### Instructions without an encoding -/

/-- Every instruction makes the check of `legal` before anything else. The legacy packet loads skip it, but they have an encoding
under either reading, so that the check would pass. -/
theorem exec_eq_legal (i : Instr) (s : State) : ∃ k, exec i s = legal i s k := by
  cases i
  case ldAbs size rest => exact ⟨legacyLoad size rest s, (legal_of_wellFormed rfl).symm⟩
  case ldInd size rest => exact ⟨legacyLoad size rest s, (legal_of_wellFormed rfl).symm⟩
  all_goals exact ⟨_, rfl⟩

/-- An instruction that has no encoding under the launch's reading of `BPF_NEG` faults (`60_exceptions.md` R243). -/
theorem exec_of_not_wellFormed {i : Instr} {s : State} (h : i.wellFormed s.cfg.negReading = false) :
    exec i s = .fault (.illegalInstruction s.pc (firstWord s.cfg.imm64Form i)) := by
  obtain ⟨k, hk⟩ := exec_eq_legal i s
  rw [hk, legal_of_not_wellFormed h]

/-- A well-formed instruction writes only registers that may be written (`10_state.md` R22). -/
theorem writable_of_mem_writtenRegs {i : Instr} {neg : NegReading} {r : Reg} (hw : i.wellFormed neg = true)
    (hr : r ∈ writtenRegs i) : r.writable = true := by
  cases i
  case neg64K | neg64X | neg32K | neg32X =>
    obtain ⟨hdst, -⟩ := Bool.and_eq_true_iff.mp hw
    rwa [List.mem_singleton.mp hr]
  case call =>
    have hscratch : ∀ q ∈ [Reg.r0, .r1, .r2, .r3, .r4, .r5], q.writable = true := by decide
    exact hscratch r hr
  case atomicCmpxchg32 | atomicCmpxchg64 => rw [List.mem_singleton.mp hr]; rfl
  -- The others write no register, or the one register that `Instr.wellFormed` checks.
  all_goals simp only [writtenRegs, List.mem_singleton, List.not_mem_nil] at hr
  all_goals subst hr; exact hw

/-- Settles O25: the check of `legal` is the first of every instruction, and R10 may not be written. -/
theorem writingR10IsIllegal : Obligations.WritingR10IsIllegal := by
  refine ⟨fun _ _ h => exec_of_not_wellFormed h, fun i neg hmem => ?_⟩
  rw [Bool.eq_false_iff]
  intro hw
  have hwritable : Reg.r10.writable = true := writable_of_mem_writtenRegs hw hmem
  exact absurd hwritable (by decide)

end Sys2Proof.Machine
end

section
/-! Proofs of the family `30_encoding`: the number an instruction word is, and the length of an encoding. -/

namespace Sys2Proof

/-! ### An instruction word as a number -/

/-- The upper part of a joined bit vector counts in units of two to the width of the lower part. -/
theorem toNat_append_eq_mul_add {m n : Nat} (x : BitVec m) (y : BitVec n) :
    (x ++ y).toNat = x.toNat * 2 ^ n + y.toNat := by
  rw [BitVec.toNat_append, ← Nat.shiftLeft_add_eq_or_of_lt y.isLt, Nat.shiftLeft_eq]

/-- The number of a packed word: each field at the place that `30_encoding.md` R61 gives it. -/
theorem toNat_packFields (f : Fields) : (packFields f).toNat =
    f.imm.toNat * 2 ^ 32 + f.off.toNat * 2 ^ 16 + f.src.toNat * 2 ^ 12 + f.dst.toNat * 2 ^ 8 + f.op.toNat := by
  -- `packFields` has the width 64 where the joined fields have the sum of their widths.
  have hjoin : (packFields f).toNat = (f.imm ++ f.off ++ f.src ++ f.dst ++ f.op).toNat := rfl
  rw [hjoin]
  simp only [toNat_append_eq_mul_add]
  omega

/-- Settles O2: the number of a packed word, and every word is the packing of its own fields. -/
theorem wordIsItsFieldsInPlace : Obligations.WordIsItsFieldsInPlace := by
  refine ⟨toNat_packFields, fun w => ?_⟩
  rw [← toNat_packFields, packFields_fieldsOf]

/-! ### The length of an encoding -/

/-- A word is wide if its opcode byte is 0x18 (`30_encoding.md` R76). -/
theorem isWideWord_iff {w : Word} : isWideWord w = true ↔ (fieldsOf w).op = 0x18#8 := beq_iff_eq

/-- No legacy packet load has the opcode byte 0x18 (`30_encoding.md` R83). -/
theorem isWideWord_legacy (rest : BitVec 56) {mode : BitVec 8} (hmode : mode = 0x20#8 ∨ mode = 0x40#8) (size : Size) :
    isWideWord (rest ++ legacyOpcode mode size) = false := by
  rw [isWideWord, legacy_op]
  rcases hmode with rfl | rfl <;> cases size <;> rfl

/-- Any instruction but the 64-bit immediate load is one word, the same in either form of the immediate, and that word is not wide. -/
theorem encode_of_ne_ldImm64 {i : Instr} (h : ∀ dst v, i ≠ .ldImm64 dst v) :
    ∃ w, isWideWord w = false ∧ ∀ form, encode form i = [w] := by
  cases i
  case ldImm64 dst v => exact absurd rfl (h dst v)
  case ldAbs size rest => exact ⟨_, isWideWord_legacy rest (.inl rfl) size, fun _ => rfl⟩
  case ldInd size rest => exact ⟨_, isWideWord_legacy rest (.inr rfl) size, fun _ => rfl⟩
  all_goals exact ⟨_, isWideWord_basicWord _ _ _ _ _, fun _ => rfl⟩

/-- The first word of the 64-bit immediate load is wide in either form of the immediate (`30_encoding.md` R75). -/
theorem isWideWord_firstWord_ldImm64 (form : Imm64Form) (dst : Reg) (v : Word) :
    isWideWord (firstWord form (.ldImm64 dst v)) = true := by
  cases form <;> exact isWideWord_basicWord _ _ _ _ _

/-- The first word of an instruction is wide if and only if the instruction is the 64-bit immediate load. -/
theorem isWideWord_firstWord_iff {form : Imm64Form} {i : Instr} :
    isWideWord (firstWord form i) = true ↔ ∃ dst v, i = .ldImm64 dst v := by
  constructor
  · intro hwide
    by_contra hne
    obtain ⟨w, hw, henc⟩ := encode_of_ne_ldImm64 fun dst v hi => hne ⟨dst, v, hi⟩
    have hfirst : firstWord form i = w := by rw [firstWord, henc]; rfl
    rw [hfirst, hw] at hwide
    cases hwide
  · rintro ⟨dst, v, rfl⟩
    exact isWideWord_firstWord_ldImm64 form dst v

/-- The law `Laws.EncodedLength` of the single instructions, for every instruction. -/
theorem length_encode (form : Imm64Form) (i : Instr) :
    (encode form i).length = if isWideWord (firstWord form i) then 2 else 1 := by
  by_cases hi : ∃ dst v, i = .ldImm64 dst v
  · obtain ⟨dst, v, rfl⟩ := hi
    exact Laws.EncodedLength.ldImm64 dst v form
  · obtain ⟨w, hw, henc⟩ := encode_of_ne_ldImm64 fun dst v h => hi ⟨dst, v, h⟩
    exact Laws.EncodedLength.of_one_word henc hw form

/-- An encoding has two words if and only if its first word is wide. -/
theorem length_encode_eq_two_iff {form : Imm64Form} {i : Instr} :
    (encode form i).length = 2 ↔ isWideWord (firstWord form i) = true := by
  rw [length_encode]
  cases isWideWord (firstWord form i) <;> decide

/-- Settles O5: the first word alone says how many words there are, and only that of the 64-bit immediate load says two. -/
theorem onlyTheWideLoadTakesTwoWords : Obligations.OnlyTheWideLoadTakesTwoWords := by
  intro form i
  refine ⟨?_, length_encode_eq_two_iff.trans isWideWord_firstWord_iff, length_encode_eq_two_iff.trans isWideWord_iff⟩
  rw [length_encode]
  split
  · exact .inr rfl
  · exact .inl rfl

end Sys2Proof
end

section
/-! Proofs of the family `40_alu64`: what a 64-bit operation on two operands does, and division and modulo. -/

namespace Sys2Proof.Machine

/-! ### Operands and opcode bytes -/

/-- Sign extension from 32 to 64 bits, as an unsigned number (`30_encoding.md` R72). -/
theorem toNat_signExtend_eq_sextNat (m : BitVec 32) : (m.signExtend 64).toNat = sextNat m := by
  rw [BitVec.toNat_signExtend, BitVec.toNat_setWidth_of_le (by decide), BitVec.msb_eq_decide, sextNat]
  simp only [decide_eq_true_eq]
  split_ifs <;> omega

theorem toNat_operandValue64 (o : Operand) (s : State) : (operandValue64 o s).toNat = srcNat64 s o := by
  cases o with
  | reg r => rfl
  | imm m => exact toNat_signExtend_eq_sextNat m

theorem operand64_of_readable {o : Operand} {s : State} (h : srcReadable s o) (k : Word → Out) :
    operand64 o s k = k (operandValue64 o s) := by
  cases o with
  | reg r => exact readReg_of_readable h
  | imm m => rfl

theorem writable_of_ne_r10 {r : Reg} (h : r ≠ .r10) : r.writable = true := bne_iff_ne.mpr h

/-- The opcode byte of a basic word (`30_encoding.md` R61). -/
theorem op_basicWord (op : BitVec 8) (dst src : BitVec 4) (off : BitVec 16) (imm : BitVec 32) :
    (fieldsOf (basicWord op dst src off imm)).op = op := by
  rw [basicWord, fieldsOf_packFields]

/-! ### The effect of an operation that ends in `finish` -/

/-- Writing the result and going on to the next slot changes one register and `pc`, and nothing else. -/
theorem stepEffect_finish {d : Reg} (hd : d ≠ .r10) (s : State) (v : Word) :
    StepEffect (.next (s.finish d v)) s (s.pc + 1) (some (d, v.toNat)) none := by
  have hwrites : WritesOnly s (s.finish d v) (some (d, v.toNat)) :=
    ⟨congrArg BitVec.toNat (RegFile.get_set_self hd s.regs v), Marks.get_set_self hd s.written true,
      fun _ hr => State.setReg_frame hr s v⟩
  exact ⟨_, rfl, rfl, hwrites, rfl, rfl, rfl, rfl, rfl⟩

/-- A 64-bit operation whose two operands can be read completes, with the result in the destination (`40_alu64.md` R100). -/
theorem stepEffect_alu64 {s : State} {d : Reg} {o : Operand} (hd : d ≠ .r10) (hread : s.readable d = true)
    (hsrc : srcReadable s o) (f : Word → Word → Word) :
    StepEffect (alu64 f d o s) s (s.pc + 1) (some (d, (f (s.value 0 d) (operandValue64 o s)).toNat)) none := by
  rw [alu64, readReg_of_readable hread, operand64_of_readable hsrc]
  exact stepEffect_finish hd s _

/-! ### Division -/

/-- `divOp` is the division of the unsigned values, made total (`40_alu64.md` R104). -/
theorem toNat_divOp {w : Nat} (a b : BitVec w) : (divOp a b).toNat = if b.toNat ≠ 0 then a.toNat / b.toNat else 0 := by
  by_cases hb : b = 0#w
  · simp [divOp, hb]
  · have hb' : b.toNat ≠ 0 := by simpa [BitVec.toNat_eq] using hb
    rw [divOp, if_neg hb, if_pos hb', BitVec.toNat_udiv]

/-- Either form of `div64` is the operation `divOp` on its operands: it is well formed, its destination being writable. -/
theorem exec_div64 {d : Reg} (hd : d ≠ .r10) (o : Operand) (s : State) :
    exec (aluForm .div64K .div64X d o) s = alu64 divOp d o s := by
  cases o <;> exact legal_of_wellFormed (writable_of_ne_r10 hd)

/-- Settles O29: both forms run `divOp`, which is the total unsigned division of the operands' numbers. -/
theorem division64IsUnsignedAndTotal : Obligations.Division64IsUnsignedAndTotal := by
  intro s d o form hd hread hsrc
  refine ⟨?effect, ?opcode⟩
  case effect =>
    have heffect := stepEffect_alu64 hd hread hsrc divOp
    rwa [toNat_divOp, toNat_operandValue64, ← exec_div64 hd] at heffect
  case opcode => cases o <;> exact op_basicWord _ _ _ _ _

/-! ### Modulo -/

/-- `modOp` is the dividend less the whole multiples of the divisor, made total (`40_alu64.md` R110). -/
theorem toNat_modOp {w : Nat} (a b : BitVec w) :
    (modOp a b).toNat = if b.toNat ≠ 0 then a.toNat - a.toNat / b.toNat * b.toNat else a.toNat := by
  by_cases hb : b = 0#w
  · simp [modOp, hb]
  · have hb' : b.toNat ≠ 0 := by simpa [BitVec.toNat_eq] using hb
    rw [modOp, if_neg hb, if_pos hb', BitVec.toNat_umod, Nat.mod_eq_sub_div_mul]

/-- Either form of `mod64` is the operation `modOp` on its operands: it is well formed, its destination being writable. -/
theorem exec_mod64 {d : Reg} (hd : d ≠ .r10) (o : Operand) (s : State) :
    exec (aluForm .mod64K .mod64X d o) s = alu64 modOp d o s := by
  cases o <;> exact legal_of_wellFormed (writable_of_ne_r10 hd)

/-- Settles O30: both forms run `modOp`, whose result for a divisor that is not 0 is the remainder, below the divisor. -/
theorem modulo64IsUnsignedAndTotal : Obligations.Modulo64IsUnsignedAndTotal := by
  intro s d o form hd hread hsrc
  refine ⟨?effect, fun hS => ?remainder, ?opcode⟩
  case effect =>
    have heffect := stepEffect_alu64 hd hread hsrc modOp
    rwa [toNat_modOp, toNat_operandValue64, ← exec_mod64 hd] at heffect
  case remainder =>
    rw [← Nat.mod_eq_sub_div_mul]
    exact Nat.mod_lt _ (Nat.pos_of_ne_zero hS)
  case opcode => cases o <;> exact op_basicWord _ _ _ _ _

end Sys2Proof.Machine
end

section
/-! Proofs on the decoder and the encoder: each is the other's inverse. -/

namespace Sys2Proof

variable {neg : NegReading} {form : Imm64Form} {op : BitVec 8} {next : Option Word}

/-! ### Decoding a basic word, by the format of its row -/

/-- The fields of a basic word are those it was made of (`30_encoding.md` R61). -/
theorem fieldsOf_basicWord (op : BitVec 8) (dst src : BitVec 4) (off : BitVec 16) (imm : BitVec 32) :
    fieldsOf (basicWord op dst src off imm) = ⟨op, dst, src, off, imm⟩ :=
  fieldsOf_packFields _

/-- A word whose opcode byte has a row is built by that row. -/
theorem decode_of_lookup {w : Word} {row : Row} (h : lookup (fieldsOf w).op opcodeMap = some row) :
    decode neg form w next = buildRow neg form w (fieldsOf w) next row := by
  rw [decode, h]

theorem decode_basicWord {row : Row} (h : lookup op opcodeMap = some row) (dst src : BitVec 4) (off : BitVec 16) (imm : BitVec 32) :
    decode neg form (basicWord op dst src off imm) next =
      buildRow neg form (basicWord op dst src off imm) ⟨op, dst, src, off, imm⟩ next row := by
  rw [decode_of_lookup (row := row), fieldsOf_basicWord]
  rwa [fieldsOf_basicWord]

theorem acceptInstr_of_wellFormed {i : Instr} (h : i.wellFormed neg = true) : acceptInstr neg i = .ok i := by
  rw [acceptInstr, if_pos h]

theorem withReg_regField {mk : Reg → Instr} {dst : Reg} (h : (mk dst).wellFormed neg = true) :
    withReg neg (regField dst) mk = .ok (mk dst) := by
  simp only [withReg, regOf_regField, acceptInstr_of_wellFormed h]

theorem withRegs_regField {mk : Reg → Reg → Instr} {dst src : Reg} (h : (mk dst src).wellFormed neg = true) :
    withRegs neg (regField dst) (regField src) mk = .ok (mk dst src) := by
  simp only [withRegs, regOf_regField, acceptInstr_of_wellFormed h]

theorem decode_aluK {mk : Reg → BitVec 32 → Instr} (hrow : lookup op opcodeMap = some (.aluK mk)) {dst : Reg} {imm : BitVec 32}
    (h : (mk dst imm).wellFormed neg = true) :
    decode neg form (basicWord op (regField dst) 0#4 0#16 imm) next = .ok (mk dst imm) := by
  rw [decode_basicWord hrow]
  exact withReg_regField (mk := fun d => mk d imm) h

theorem decode_aluX {mk : Reg → Reg → Instr} (hrow : lookup op opcodeMap = some (.aluX mk)) {dst src : Reg}
    (h : (mk dst src).wellFormed neg = true) :
    decode neg form (basicWord op (regField dst) (regField src) 0#16 0#32) next = .ok (mk dst src) := by
  rw [decode_basicWord hrow]
  exact withRegs_regField h

theorem decode_byteSwap {byWidth : List (BitVec 32 × (Reg → Instr))} (hrow : lookup op opcodeMap = some (.byteSwap byWidth))
    {imm : BitVec 32} {mk : Reg → Instr} (himm : lookup imm byWidth = some mk) {dst : Reg} (h : (mk dst).wellFormed neg = true) :
    decode neg form (basicWord op (regField dst) 0#4 0#16 imm) next = .ok (mk dst) := by
  rw [decode_basicWord hrow]
  simp only [buildRow, and_self, if_true, himm, withReg_regField h]

theorem decode_jmpK {mk : Reg → BitVec 32 → BitVec 16 → Instr} (hrow : lookup op opcodeMap = some (.jmpK mk)) {dst : Reg}
    {imm : BitVec 32} {off : BitVec 16} (h : (mk dst imm off).wellFormed neg = true) :
    decode neg form (basicWord op (regField dst) 0#4 off imm) next = .ok (mk dst imm off) := by
  rw [decode_basicWord hrow]
  exact withReg_regField (mk := fun d => mk d imm off) h

theorem decode_jmpX {mk : Reg → Reg → BitVec 16 → Instr} (hrow : lookup op opcodeMap = some (.jmpX mk)) {dst src : Reg}
    {off : BitVec 16} (h : (mk dst src off).wellFormed neg = true) :
    decode neg form (basicWord op (regField dst) (regField src) off 0#32) next = .ok (mk dst src off) := by
  rw [decode_basicWord hrow]
  exact withRegs_regField (mk := fun d s => mk d s off) h

theorem decode_ldx {mk : Reg → Reg → BitVec 16 → Instr} (hrow : lookup op opcodeMap = some (.ldx mk)) {dst src : Reg}
    {off : BitVec 16} (h : (mk dst src off).wellFormed neg = true) :
    decode neg form (basicWord op (regField dst) (regField src) off 0#32) next = .ok (mk dst src off) := by
  rw [decode_basicWord hrow]
  exact withRegs_regField (mk := fun d s => mk d s off) h

theorem decode_st {mk : Reg → BitVec 16 → BitVec 32 → Instr} (hrow : lookup op opcodeMap = some (.st mk)) {dst : Reg}
    {off : BitVec 16} {imm : BitVec 32} (h : (mk dst off imm).wellFormed neg = true) :
    decode neg form (basicWord op (regField dst) 0#4 off imm) next = .ok (mk dst off imm) := by
  rw [decode_basicWord hrow]
  exact withReg_regField (mk := fun d => mk d off imm) h

theorem decode_stx {mk : Reg → Reg → BitVec 16 → Instr} (hrow : lookup op opcodeMap = some (.stx mk)) {dst src : Reg}
    {off : BitVec 16} (h : (mk dst src off).wellFormed neg = true) :
    decode neg form (basicWord op (regField dst) (regField src) off 0#32) next = .ok (mk dst src off) := by
  rw [decode_basicWord hrow]
  exact withRegs_regField (mk := fun d s => mk d s off) h

theorem decode_atomic {byOp : List (BitVec 32 × (Reg → Reg → BitVec 16 → Instr))}
    (hrow : lookup op opcodeMap = some (.atomic byOp)) {imm : BitVec 32} {mk : Reg → Reg → BitVec 16 → Instr}
    (himm : lookup imm byOp = some mk) {dst src : Reg} {off : BitVec 16} (h : (mk dst src off).wellFormed neg = true) :
    decode neg form (basicWord op (regField dst) (regField src) off imm) next = .ok (mk dst src off) := by
  rw [decode_basicWord hrow]
  simp only [buildRow, himm]
  exact withRegs_regField (mk := fun d s => mk d s off) h

theorem decode_legacy {mk : BitVec 56 → Instr} (hrow : lookup op opcodeMap = some (.legacy mk)) {rest : BitVec 56}
    (h : (mk rest).wellFormed neg = true) : decode neg form (rest ++ op) next = .ok (mk rest) := by
  rw [decode_of_lookup (row := .legacy mk) (by rwa [legacy_op])]
  simp only [buildRow, legacy_rest, acceptInstr_of_wellFormed h]

set_option maxRecDepth 8000 in
/-- The opcode byte 0x18 has the row of the wide load (`30_encoding.md` R83). -/
theorem lookup_wide : lookup 0x18#8 opcodeMap = some .ldImm64 := rfl

/-- A word with the opcode byte 0x18 decodes as the first word of a wide load. -/
theorem decode_of_isWideWord {w : Word} (h : isWideWord w = true) :
    decode neg form w next = decodeWide neg form (fieldsOf w) next := by
  rw [decode_of_lookup (row := .ldImm64)]
  · rfl
  · rw [isWideWord_iff.mp h]; exact lookup_wide

/-- The wide load decodes from the two words of its encoding, in either form of the immediate (`46_imm64.md` R231). -/
theorem decode_ldImm64 {dst : Reg} (hdst : dst.writable = true) (v : Word) :
    ∃ w w2, encode form (.ldImm64 dst v) = [w, w2] ∧ decode neg form w (some w2) = .ok (.ldImm64 dst v) := by
  have hwf : (Instr.ldImm64 dst 0#64).wellFormed neg = true := hdst
  cases form
  case source =>
    refine ⟨_, _, rfl, ?_⟩
    rw [decode_of_isWideWord (isWideWord_basicWord _ _ _ _ _), fieldsOf_basicWord]
    simp [decodeWide, hwf]
  case split =>
    have hlow : (v.extractLsb' 32 32 ++ 0#32 : Word).extractLsb' 0 32 = 0#32 := BitVec.extractLsb'_append_eq_right
    have hhigh : (v.extractLsb' 32 32 ++ 0#32 : Word).extractLsb' 32 32 = v.extractLsb' 32 32 :=
      BitVec.extractLsb'_append_eq_left
    have hjoin : (v.extractLsb' 32 32 ++ v.extractLsb' 0 32 : Word) = v := 
      BitVec.extractLsb'_append_extractLsb' (w := 32) (len := 32)
    refine ⟨_, _, rfl, ?_⟩
    rw [decode_of_isWideWord (isWideWord_basicWord _ _ _ _ _), fieldsOf_basicWord]
    simp only [decodeWide, true_and, true_or, if_true, regOf_regField, hwf, hlow, hhigh, hjoin]

/-! ### Decoding an encoding -/

theorem decodeWords_one {w : Word} {i : Instr} {rest : List Word} (hw : isWideWord w = false)
    (h : decode neg form w rest.head? = .ok i) : decodeWords neg form ([w] ++ rest) = some (.ok (i, rest)) := by
  simp [decodeWords, h, hw]

theorem decodeWords_two {w w2 : Word} {i : Instr} {rest : List Word} (hw : isWideWord w = true)
    (h : decode neg form w (some w2) = .ok i) : decodeWords neg form ([w, w2] ++ rest) = some (.ok (i, rest)) := by
  simp [decodeWords, h, hw]

set_option maxRecDepth 8000 in
/-- The word of an instruction but the wide load decodes to it, whatever the next word is. -/
theorem decode_encode_of_ne_ldImm64 {i : Instr} (hi : ∀ dst v, i ≠ .ldImm64 dst v) (h : i.wellFormed neg = true) {w : Word}
    (hw : encode form i = [w]) : decode neg form w next = .ok i := by
  cases i
  case ldImm64 dst v => exact absurd rfl (hi dst v)
  all_goals cases hw
  case add64K | sub64K | mul64K | div64K | or64K | and64K | lsh64K | rsh64K | neg64K | mod64K | xor64K | mov64K | arsh64K
     | add32K | sub32K | mul32K | div32K | or32K | and32K | lsh32K | rsh32K | neg32K | mod32K | xor32K | mov32K | arsh32K =>
    exact decode_aluK rfl h
  case add64X | sub64X | mul64X | div64X | or64X | and64X | lsh64X | rsh64X | neg64X | mod64X | xor64X | mov64X | arsh64X
     | add32X | sub32X | mul32X | div32X | or32X | and32X | lsh32X | rsh32X | neg32X | mod32X | xor32X | mov32X | arsh32X =>
    exact decode_aluX rfl h
  case le16 | le32 | le64 | be16 | be32 | be64 => exact decode_byteSwap rfl rfl h
  case ja => exact decode_basicWord (row := .ja) rfl _ _ _ _
  case jeqK | jgtK | jgeK | jsetK | jneK | jsgtK | jsgeK | jltK | jleK | jsltK | jsleK | jeq32K | jgt32K | jge32K | jset32K | jne32K
     | jsgt32K | jsge32K | jlt32K | jle32K | jslt32K | jsle32K =>
    exact decode_jmpK rfl h
  case jeqX | jgtX | jgeX | jsetX | jneX | jsgtX | jsgeX | jltX | jleX | jsltX | jsleX | jeq32X | jgt32X | jge32X | jset32X | jne32X
     | jsgt32X | jsge32X | jlt32X | jle32X | jslt32X | jsle32X =>
    exact decode_jmpX rfl h
  case call => exact decode_basicWord (row := .call) rfl _ _ _ _
  case exit => exact decode_basicWord (row := .exit) rfl _ _ _ _
  case stxw | stxh | stxb | stxdw => exact decode_stx rfl h
  case stw | sth | stb | stdw => exact decode_st rfl h
  case ldxw | ldxh | ldxb | ldxdw => exact decode_ldx rfl h
  case ldAbs size rest => cases size <;> exact decode_legacy rfl rfl
  case ldInd size rest => cases size <;> exact decode_legacy rfl rfl
  -- The atomic operations remain.
  all_goals exact decode_atomic rfl rfl h

/-- Settles O3: an encoding is one word that its row builds the instruction from, or the two words of the wide load. -/
theorem decodeInvertsEncode : Obligations.DecodeInvertsEncode := by
  intro neg form i rest h
  by_cases hi : ∃ dst v, i = .ldImm64 dst v
  · obtain ⟨dst, v, rfl⟩ := hi
    obtain ⟨w, w2, hw, hdec⟩ := decode_ldImm64 (neg := neg) (form := form) (v := v) h
    have hwide : isWideWord w = true := by
      have hfirst := isWideWord_firstWord_ldImm64 form dst v
      rwa [firstWord, hw] at hfirst
    rw [hw]
    exact decodeWords_two hwide hdec
  · have hne : ∀ dst v, i ≠ .ldImm64 dst v := fun dst v heq => hi ⟨dst, v, heq⟩
    obtain ⟨w, hwide, henc⟩ := encode_of_ne_ldImm64 hne
    rw [henc]
    exact decodeWords_one hwide (decode_encode_of_ne_ldImm64 hne h (henc form))

end Sys2Proof
end

section
/-! Proofs on the decoder and the encoder, the other direction: no bit of an accepted word is dropped. -/

namespace Sys2Proof

variable {neg : NegReading} {form : Imm64Form} {next : Option Word}

/-- A word is the basic word of its fields. -/
theorem basicWord_fieldsOf (w : Word) :
    basicWord (fieldsOf w).op (fieldsOf w).dst (fieldsOf w).src (fieldsOf w).off (fieldsOf w).imm = w :=
  packFields_fieldsOf w

/-! ### What a row encodes to -/

/-- The instructions that a row of the opcode map builds encode to words with the row's opcode byte, in the row's format
(`30_encoding.md` R78). The two words of the wide load are said by `encode` itself. -/
def EncodesAs (op : BitVec 8) : Row → Prop
  | .aluK mk => ∀ form dst imm, encode form (mk dst imm) = [basicWord op (regField dst) 0#4 0#16 imm]
  | .aluX mk => ∀ form dst src, encode form (mk dst src) = [basicWord op (regField dst) (regField src) 0#16 0#32]
  | .byteSwap byWidth => ∀ p ∈ byWidth, ∀ form dst, encode form (p.2 dst) = [basicWord op (regField dst) 0#4 0#16 p.1]
  | .ja => op = 0x05#8
  | .jmpK mk => ∀ form dst imm off, encode form (mk dst imm off) = [basicWord op (regField dst) 0#4 off imm]
  | .jmpX mk => ∀ form dst src off, encode form (mk dst src off) = [basicWord op (regField dst) (regField src) off 0#32]
  | .call => op = 0x85#8
  | .exit => op = 0x95#8
  | .ldx mk => ∀ form dst src off, encode form (mk dst src off) = [basicWord op (regField dst) (regField src) off 0#32]
  | .st mk => ∀ form dst off imm, encode form (mk dst off imm) = [basicWord op (regField dst) 0#4 off imm]
  | .stx mk => ∀ form dst src off, encode form (mk dst src off) = [basicWord op (regField dst) (regField src) off 0#32]
  | .atomic byOp => ∀ p ∈ byOp, ∀ form dst src off,
      encode form (p.2 dst src off) = [basicWord op (regField dst) (regField src) off p.1]
  | .ldImm64 => op = 0x18#8
  | .legacy mk => ∀ form rest, encode form (mk rest) = [rest ++ op]

theorem encodesAs_legacyRows : ∀ p ∈ legacyRows, EncodesAs p.1 p.2 := by
  simp only [legacyRows, List.mem_cons, List.not_mem_nil, or_false, forall_eq_or_imp, forall_eq]
  repeat' apply And.intro
  all_goals exact fun _ _ => rfl

theorem encodesAs_alu64Rows : ∀ p ∈ alu64Rows, EncodesAs p.1 p.2 := by
  simp only [alu64Rows, List.mem_cons, List.not_mem_nil, or_false, forall_eq_or_imp, forall_eq]
  repeat' apply And.intro
  all_goals exact fun _ _ _ => rfl

theorem encodesAs_alu32Rows : ∀ p ∈ alu32Rows, EncodesAs p.1 p.2 := by
  simp only [alu32Rows, List.mem_cons, List.not_mem_nil, or_false, forall_eq_or_imp, forall_eq]
  repeat' apply And.intro
  all_goals exact fun _ _ _ => rfl

theorem encodesAs_jmpRows : ∀ p ∈ jmpRows, EncodesAs p.1 p.2 := by
  simp only [jmpRows, List.mem_cons, List.not_mem_nil, or_false, forall_eq_or_imp, forall_eq]
  repeat' apply And.intro
  all_goals exact fun _ _ _ _ => rfl

theorem encodesAs_jmp32Rows : ∀ p ∈ jmp32Rows, EncodesAs p.1 p.2 := by
  simp only [jmp32Rows, List.mem_cons, List.not_mem_nil, or_false, forall_eq_or_imp, forall_eq]
  repeat' apply And.intro
  all_goals exact fun _ _ _ _ => rfl

theorem encodesAs_memRows : ∀ p ∈ memRows, EncodesAs p.1 p.2 := by
  simp only [memRows, List.mem_cons, List.not_mem_nil, or_false, forall_eq_or_imp, forall_eq]
  repeat' apply And.intro
  all_goals exact fun _ _ _ _ => rfl

theorem encodesAs_byteSwaps : EncodesAs 0xd4#8 (.byteSwap leWidths) ∧ EncodesAs 0xdc#8 (.byteSwap beWidths) := by
  simp only [EncodesAs, leWidths, beWidths, List.mem_cons, List.not_mem_nil, or_false, forall_eq_or_imp, forall_eq]
  repeat' apply And.intro
  all_goals exact fun _ _ => rfl

theorem encodesAs_atomics : EncodesAs 0xc3#8 (.atomic atomic32Ops) ∧ EncodesAs 0xdb#8 (.atomic atomic64Ops) := by
  simp only [EncodesAs, atomic32Ops, atomic64Ops, List.mem_cons, List.not_mem_nil, or_false, forall_eq_or_imp, forall_eq]
  repeat' apply And.intro
  all_goals exact fun _ _ _ _ => rfl

theorem encodesAs_otherRows : ∀ p ∈ otherRows, EncodesAs p.1 p.2 := by
  simp only [otherRows, List.mem_cons, List.not_mem_nil, or_false, forall_eq_or_imp, forall_eq]
  exact ⟨rfl, rfl, rfl, encodesAs_byteSwaps.1, encodesAs_byteSwaps.2, encodesAs_atomics.1, encodesAs_atomics.2, rfl⟩

/-- Every row of the opcode map encodes as its format says. -/
theorem encodesAs_of_mem_opcodeMap {p : BitVec 8 × Row} (h : p ∈ opcodeMap) : EncodesAs p.1 p.2 := by
  simp only [opcodeMap, List.mem_append] at h
  obtain (((((h | h) | h) | h) | h) | h) | h := h
  · exact encodesAs_legacyRows p h
  · exact encodesAs_alu64Rows p h
  · exact encodesAs_alu32Rows p h
  · exact encodesAs_jmpRows p h
  · exact encodesAs_jmp32Rows p h
  · exact encodesAs_memRows p h
  · exact encodesAs_otherRows p h

/-! ### What an accepted word holds -/

theorem acceptInstr_ok {i j : Instr} (h : acceptInstr neg i = .ok j) : j = i ∧ j.wellFormed neg = true := by
  unfold acceptInstr at h
  split at h
  · cases h; exact ⟨rfl, ‹_›⟩
  · cases h

theorem withReg_ok {d : BitVec 4} {mk : Reg → Instr} {i : Instr} (h : withReg neg d mk = .ok i) :
    ∃ dst, regField dst = d ∧ i = mk dst ∧ i.wellFormed neg = true := by
  unfold withReg at h
  split at h
  · obtain ⟨hi, hwf⟩ := acceptInstr_ok h
    exact ⟨_, regField_of_regOf ‹_›, hi, hwf⟩
  · cases h

theorem withRegs_ok {d s : BitVec 4} {mk : Reg → Reg → Instr} {i : Instr} (h : withRegs neg d s mk = .ok i) :
    ∃ dst src, regField dst = d ∧ regField src = s ∧ i = mk dst src ∧ i.wellFormed neg = true := by
  unfold withRegs at h
  split at h
  · obtain ⟨hi, hwf⟩ := acceptInstr_ok h
    exact ⟨_, _, regField_of_regOf ‹_›, regField_of_regOf ‹_›, hi, hwf⟩
  · cases h

/-- An answer that passed a check: the check held. -/
theorem ok_of_ite_ok {c : Prop} [Decidable c] {x : Except DecodeError Instr} {i : Instr}
    (h : (if c then x else .error .illegal) = .ok i) : c ∧ x = .ok i := by
  split at h
  · exact ⟨‹_›, h⟩
  · cases h

/-- What a row but the wide load's builds from a word encodes to that word. -/
theorem encode_of_buildRow {w : Word} {row : Row} {i : Instr} (hrow : row ≠ .ldImm64) (henc : EncodesAs (fieldsOf w).op row)
    (h : buildRow neg form w (fieldsOf w) next row = .ok i) : i.wellFormed neg = true ∧ encode form i = [w] := by
  have hw := basicWord_fieldsOf w
  generalize hf : fieldsOf w = f at *
  obtain ⟨op, d, s, off, imm⟩ := f
  simp only at *
  cases row with
  | aluK mk =>
    obtain ⟨⟨rfl, rfl⟩, h⟩ := ok_of_ite_ok h
    obtain ⟨dst, rfl, rfl, hwf⟩ := withReg_ok h
    exact ⟨hwf, by rw [henc, hw]⟩
  | aluX mk =>
    obtain ⟨⟨rfl, rfl⟩, h⟩ := ok_of_ite_ok h
    obtain ⟨dst, src, rfl, rfl, rfl, hwf⟩ := withRegs_ok h
    exact ⟨hwf, by rw [henc, hw]⟩
  | byteSwap byWidth =>
    obtain ⟨⟨rfl, rfl⟩, h⟩ := ok_of_ite_ok h
    split at h
    · obtain ⟨dst, rfl, rfl, hwf⟩ := withReg_ok h
      exact ⟨hwf, by rw [henc _ (mem_of_lookup ‹_›), hw]⟩
    · cases h
  | ja =>
    obtain ⟨⟨rfl, rfl, rfl⟩, h⟩ := ok_of_ite_ok h
    obtain ⟨rfl, hwf⟩ := acceptInstr_ok h
    exact ⟨hwf, by rw [← hw, henc]; rfl⟩
  | jmpK mk =>
    obtain ⟨rfl, h⟩ := ok_of_ite_ok h
    obtain ⟨dst, rfl, rfl, hwf⟩ := withReg_ok h
    exact ⟨hwf, by rw [henc, hw]⟩
  | jmpX mk =>
    obtain ⟨rfl, h⟩ := ok_of_ite_ok h
    obtain ⟨dst, src, rfl, rfl, rfl, hwf⟩ := withRegs_ok h
    exact ⟨hwf, by rw [henc, hw]⟩
  | call =>
    obtain ⟨⟨rfl, rfl, rfl⟩, h⟩ := ok_of_ite_ok h
    obtain ⟨rfl, hwf⟩ := acceptInstr_ok h
    exact ⟨hwf, by rw [← hw, henc]; rfl⟩
  | exit =>
    obtain ⟨⟨rfl, rfl, rfl, rfl⟩, hacc⟩ := ok_of_ite_ok h
    obtain ⟨rfl, hwf⟩ := acceptInstr_ok hacc
    exact ⟨hwf, by rw [← hw, henc]; rfl⟩
  | ldx mk =>
    obtain ⟨rfl, h⟩ := ok_of_ite_ok h
    obtain ⟨dst, src, rfl, rfl, rfl, hwf⟩ := withRegs_ok h
    exact ⟨hwf, by rw [henc, hw]⟩
  | st mk =>
    obtain ⟨rfl, h⟩ := ok_of_ite_ok h
    obtain ⟨dst, rfl, rfl, hwf⟩ := withReg_ok h
    exact ⟨hwf, by rw [henc, hw]⟩
  | stx mk =>
    obtain ⟨rfl, h⟩ := ok_of_ite_ok h
    obtain ⟨dst, src, rfl, rfl, rfl, hwf⟩ := withRegs_ok h
    exact ⟨hwf, by rw [henc, hw]⟩
  | atomic byOp =>
    simp only [buildRow] at h
    split at h
    · obtain ⟨dst, src, rfl, rfl, rfl, hwf⟩ := withRegs_ok h
      exact ⟨hwf, by rw [henc _ (mem_of_lookup ‹_›), hw]⟩
    · cases h
  | ldImm64 => exact absurd rfl hrow
  | legacy mk =>
    obtain ⟨rfl, hwf⟩ := acceptInstr_ok h
    have hop : (fieldsOf w).op = op := by rw [hf]
    exact ⟨hwf, by rw [henc, ← hop, legacy_join]⟩

/-- What the wide load's row builds from two words encodes to them; without a second word it builds nothing. -/
theorem encode_of_decodeWide {w : Word} {i : Instr} (hop : (fieldsOf w).op = 0x18#8)
    (h : decodeWide neg form (fieldsOf w) next = .ok i) :
    i.wellFormed neg = true ∧ ∃ w2, next = some w2 ∧ encode form i = [w, w2] := by
  have hw := basicWord_fieldsOf w
  generalize hf : fieldsOf w = f at *
  obtain ⟨op, d, s, off, imm⟩ := f
  simp only at *
  subst hop
  obtain ⟨⟨rfl, rfl, himm⟩, h⟩ := ok_of_ite_ok h
  simp only at h himm
  split at h
  · cases h
  rename_i dst hdst
  obtain ⟨hwf, h⟩ := ok_of_ite_ok h
  rw [← regField_of_regOf hdst] at hw
  cases next with
  | none => cases h
  | some w2 =>
    cases form with
    | source =>
      cases h
      obtain rfl : imm = 0#32 := himm.resolve_left (by simp)
      exact ⟨hwf, w2, rfl, by rw [← hw]; rfl⟩
    | split =>
      obtain ⟨hlow, h⟩ := ok_of_ite_ok h
      cases h
      have himm' : (w2.extractLsb' 32 32 ++ imm : Word).extractLsb' 0 32 = imm := BitVec.extractLsb'_append_eq_right
      have hhigh : (w2.extractLsb' 32 32 ++ imm : Word).extractLsb' 32 32 = w2.extractLsb' 32 32 :=
        BitVec.extractLsb'_append_eq_left
      have hjoin : (w2.extractLsb' 32 32 ++ w2.extractLsb' 0 32 : Word) = w2 :=
        BitVec.extractLsb'_append_extractLsb' (w := 32) (len := 32)
      refine ⟨hwf, w2, rfl, ?_⟩
      simp only [encode, himm', hhigh, hw]
      rw [← hlow, hjoin]

/-- A word that decodes has a row, which built the instruction. -/
theorem decode_ok {w : Word} {i : Instr} (h : decode neg form w next = .ok i) :
    ∃ row, lookup (fieldsOf w).op opcodeMap = some row ∧ buildRow neg form w (fieldsOf w) next row = .ok i := by
  unfold decode at h
  split at h
  · exact ⟨_, ‹_›, h⟩
  · cases h

/-- What a word that is not wide decodes to encodes to that word. -/
theorem encode_of_decode {w : Word} {i : Instr} (hw : isWideWord w = false) (h : decode neg form w next = .ok i) :
    i.wellFormed neg = true ∧ encode form i = [w] := by
  obtain ⟨row, hrow, hbuild⟩ := decode_ok h
  have henc : EncodesAs (fieldsOf w).op row := encodesAs_of_mem_opcodeMap (mem_of_lookup hrow)
  refine encode_of_buildRow ?_ henc hbuild
  rintro rfl
  rw [isWideWord_iff.mpr henc] at hw
  cases hw

/-- Settles O4: by the row of the first word, which every field of an accepted word is checked against. -/
theorem encodeInvertsDecode : Obligations.EncodeInvertsDecode := by
  intro neg form ws i rest h
  cases ws with
  | nil => cases h
  | cons w tail =>
    simp only [decodeWords] at h
    split at h
    · rename_i hdec
      cases h
      cases hwide : isWideWord w with
      | false =>
        obtain ⟨hwf, henc⟩ := encode_of_decode hwide hdec
        exact ⟨hwf, by rw [henc]; rfl⟩
      | true =>
        rw [decode_of_isWideWord hwide] at hdec
        obtain ⟨hwf, w2, hnext, henc⟩ := encode_of_decodeWide (isWideWord_iff.mp hwide) hdec
        obtain ⟨rest, rfl⟩ := List.head?_eq_some_iff.mp hnext
        exact ⟨hwf, by rw [henc]; rfl⟩
    · cases h

end Sys2Proof
end

section
/-! Proofs on the opcode map, the selectors and the byte layouts. -/

namespace Sys2Proof

/-! ### The reserved opcode bytes -/

set_option maxRecDepth 8000 in
/-- No entry of the opcode map is under a byte that class, code, mode and size leave undefined. -/
theorem reservedOpcode_of_mem_opcodeMap : ∀ p ∈ opcodeMap, Machine.reservedOpcode p.1 = false := by decide

set_option maxRecDepth 20000 in
/-- Every byte that is not reserved has an entry in the opcode map. -/
theorem mem_opcodeMap_of_not_reserved : ∀ op : BitVec 8, Machine.reservedOpcode op = false → op ∈ opcodeMap.map (·.1) := by
  decide

/-- An `imm` with which the word of an opcode byte and no other bit set is legal: a width for the byte swaps, else 0. -/
def sampleImm : Row → BitVec 32
  | .byteSwap _ => 0x10#32
  | _ => 0#32

set_option maxRecDepth 8000 in
/-- Every entry of the opcode map starts a legal word. -/
theorem isOk_decode_of_mem_opcodeMap : ∀ p ∈ opcodeMap,
    (decode .source .source (basicWord p.1 0#4 0#4 0#16 (sampleImm p.2)) (some 0#64)).isOk = true := by decide

set_option maxRecDepth 8000 in
theorem count_reservedOpcode : ((List.range 256).filter fun n => Machine.reservedOpcode (BitVec.ofNat 8 n)).length = 132 := by
  decide

/-- A word whose opcode byte has no entry is illegal. -/
theorem decode_of_not_mem {neg : NegReading} {form : Imm64Form} {w : Word} {next : Option Word}
    (h : (fieldsOf w).op ∉ opcodeMap.map (·.1)) : decode neg form w next = .error .illegal := by
  unfold decode
  split
  · exact absurd (List.mem_map_of_mem (f := (·.1)) (mem_of_lookup ‹_›)) h
  · rfl

/-- Settles O6: the opcode map has an entry under a byte exactly if the byte is not reserved, and each entry starts a legal word. -/
theorem reservedOpcodeBytesAreIllegal : Obligations.ReservedOpcodeBytesAreIllegal := by
  refine ⟨fun neg form w next hres => decode_of_not_mem fun hmem => ?_, fun _ hop => ?_, count_reservedOpcode⟩
  · obtain ⟨p, hp, heq⟩ := List.mem_map.mp hmem
    rw [← heq, reservedOpcode_of_mem_opcodeMap p hp] at hres
    cases hres
  · obtain ⟨⟨op, row⟩, hmem, rfl⟩ := List.mem_map.mp (mem_opcodeMap_of_not_reserved _ hop)
    have hok := isOk_decode_of_mem_opcodeMap _ hmem
    cases hdec : decode .source .source (basicWord op 0#4 0#4 0#16 (sampleImm row)) (some 0#64) with
    | ok i => exact ⟨_, i, by rw [fieldsOf_basicWord], hdec⟩
    | error e => rw [hdec] at hok; cases hok

/-! ### The selectors of the atomic operations -/

/-- A key that no entry of a table has finds nothing. -/
theorem lookup_eq_none {n : Nat} {α : Type} {k : BitVec n} {l : List (BitVec n × α)} (h : k ∉ l.map (·.1)) : lookup k l = none := by
  cases hk : lookup k l with
  | none => rfl
  | some a => exact absurd (List.mem_map_of_mem (f := (·.1)) (mem_of_lookup hk)) h

/-- An atomic word whose `imm` has no operation in its row is illegal (`30_encoding.md` R77 item 3). -/
theorem decode_atomic_illegal {neg : NegReading} {form : Imm64Form} {w : Word} {next : Option Word}
    {byOp : List (BitVec 32 × (Reg → Reg → BitVec 16 → Instr))} (hrow : lookup (fieldsOf w).op opcodeMap = some (.atomic byOp))
    (himm : (fieldsOf w).imm ∉ byOp.map (·.1)) : decode neg form w next = .error .illegal := by
  rw [decode_of_lookup hrow]
  simp only [buildRow, lookup_eq_none himm]

set_option maxRecDepth 8000 in
/-- Settles O7: by the two tables of operations, which have the ten keys; only the forms that return the old value write `src`. -/
theorem atomicSelectorsAreTheTen : Obligations.AtomicSelectorsAreTheTen := by
  refine ⟨fun neg form w next hop himm => ?_, fun neg form next dst src off hsrc => ?_⟩
  · obtain hop | hop := hop
    · exact decode_atomic_illegal (byOp := atomic32Ops) (by rw [hop]; rfl) himm
    · exact decode_atomic_illegal (byOp := atomic64Ops) (by rw [hop]; rfl) himm
  · have hw : src.writable = true := Machine.writable_of_ne_r10 hsrc
    exact ⟨decode_atomic rfl rfl rfl, decode_atomic rfl rfl hw, decode_atomic rfl rfl rfl, decode_atomic rfl rfl hw,
      decode_atomic rfl rfl rfl, decode_atomic rfl rfl hw, decode_atomic rfl rfl rfl, decode_atomic rfl rfl hw,
      decode_atomic rfl rfl hw, decode_atomic rfl rfl rfl,
      decode_atomic rfl rfl rfl, decode_atomic rfl rfl hw, decode_atomic rfl rfl rfl, decode_atomic rfl rfl hw,
      decode_atomic rfl rfl rfl, decode_atomic rfl rfl hw, decode_atomic rfl rfl rfl, decode_atomic rfl rfl hw,
      decode_atomic rfl rfl hw, decode_atomic rfl rfl rfl⟩

/-! ### The legacy packet loads -/

set_option maxRecDepth 8000 in
/-- The eight legacy opcode bytes select a row that builds one of the two legacy packet loads (`47_legacy_packet.md` R235). -/
theorem lookup_legacy {op : BitVec 8} (h : op ∈ [0x20#8, 0x28#8, 0x30#8, 0x38#8, 0x40#8, 0x48#8, 0x50#8, 0x58#8]) :
    ∃ size, lookup op opcodeMap = some (.legacy (.ldAbs size)) ∨ lookup op opcodeMap = some (.legacy (.ldInd size)) := by
  simp only [List.mem_cons, List.not_mem_nil, or_false] at h
  obtain rfl | rfl | rfl | rfl | rfl | rfl | rfl | rfl := h
  · exact ⟨.w, .inl rfl⟩
  · exact ⟨.h, .inl rfl⟩
  · exact ⟨.b, .inl rfl⟩
  · exact ⟨.dw, .inl rfl⟩
  · exact ⟨.w, .inr rfl⟩
  · exact ⟨.h, .inr rfl⟩
  · exact ⟨.b, .inr rfl⟩
  · exact ⟨.dw, .inr rfl⟩

/-- Settles O56: both loads are refused by their meaning, and no check stands between their opcode bytes and them. -/
theorem legacyPacketLoadsAreRefused : Obligations.LegacyPacketLoadsAreRefused := by
  refine ⟨fun s size rest => ⟨rfl, rfl⟩, fun neg form w next hop => ?_⟩
  obtain ⟨size, hrow | hrow⟩ := lookup_legacy hop
  · exact ⟨size, _, .inl (decode_of_lookup hrow)⟩
  · exact ⟨size, _, .inr (decode_of_lookup hrow)⟩

set_option maxRecDepth 8000 in
/-- Settles O1: the decoder evaluates to the instruction at each of the eight words. -/
theorem specExampleWordsDecode : Obligations.SpecExampleWordsDecode :=
  ⟨rfl, rfl, rfl, rfl, rfl, rfl, rfl, rfl⟩

/-! ### The byte layouts -/

/-- The eight bytes of a word, the least significant first. -/
theorem bytesLeastFirst_eq (w : Word) : bytesLeastFirst w =
    [w.extractLsb' 0 8, w.extractLsb' 8 8, w.extractLsb' 16 8, w.extractLsb' 24 8, w.extractLsb' 32 8, w.extractLsb' 40 8,
      w.extractLsb' 48 8, w.extractLsb' 56 8] := rfl

/-- Joining the bytes of a word, the most significant first, gives the word. -/
theorem append_bytes (w : Word) : (w.extractLsb' 56 8 ++ w.extractLsb' 48 8 ++ w.extractLsb' 40 8 ++ w.extractLsb' 32 8 ++
    w.extractLsb' 24 8 ++ w.extractLsb' 16 8 ++ w.extractLsb' 8 8 ++ w.extractLsb' 0 8 : Word) = w := by
  have join (k n : Nat) : (w.extractLsb' (k + 8) n ++ w.extractLsb' k 8) = w.extractLsb' k (n + 8) :=
    BitVec.extractLsb'_append_extractLsb'_eq_extractLsb' rfl
  rw [join 48, join 40, join 32, join 24, join 16, join 8, join 0]
  exact BitVec.extractLsb'_eq_self

theorem wordOfBytes_leastFirst (w : Word) : wordOfBytes .leastFirst (w.extractLsb' 0 8) (w.extractLsb' 8 8) (w.extractLsb' 16 8)
    (w.extractLsb' 24 8) (w.extractLsb' 32 8) (w.extractLsb' 40 8) (w.extractLsb' 48 8) (w.extractLsb' 56 8) = w :=
  append_bytes w

/-- In the layout `opcodeFirst` the two register nibbles of the second byte change places, and change back. -/
theorem wordOfBytes_opcodeFirst (w : Word) : wordOfBytes .opcodeFirst (w.extractLsb' 0 8) (w.extractLsb' 8 4 ++ w.extractLsb' 12 4)
    (w.extractLsb' 24 8) (w.extractLsb' 16 8) (w.extractLsb' 56 8) (w.extractLsb' 48 8) (w.extractLsb' 40 8)
    (w.extractLsb' 32 8) = w := by
  have hsrc : (w.extractLsb' 8 4 ++ w.extractLsb' 12 4 : Byte).extractLsb' 0 4 = w.extractLsb' 12 4 :=
    BitVec.extractLsb'_append_eq_right
  have hdst : (w.extractLsb' 8 4 ++ w.extractLsb' 12 4 : Byte).extractLsb' 4 4 = w.extractLsb' 8 4 :=
    BitVec.extractLsb'_append_eq_left
  have hregs : (w.extractLsb' 12 4 ++ w.extractLsb' 8 4 : Byte) = w.extractLsb' 8 8 :=
    BitVec.extractLsb'_append_extractLsb'_eq_extractLsb' rfl
  simp only [wordOfBytes, hsrc, hdst, hregs]
  exact append_bytes w

/-- A layout that reads the eight bytes of each word as the word reads a program's bytes as its words. -/
theorem programOfBytes_flatMap {layout : InsnLayout} {bytes : Word → List Byte}
    (h : ∀ w rest ws, programOfBytes layout rest = some ws → programOfBytes layout (bytes w ++ rest) = some (w :: ws))
    (ws : List Word) : programOfBytes layout (ws.flatMap bytes) = some ws := by
  induction ws with
  | nil => rfl
  | cons w ws ih => exact h w _ ws ih

theorem programOfBytes_leastFirst (ws : List Word) : programOfBytes .leastFirst (ws.flatMap bytesLeastFirst) = some ws := by
  refine programOfBytes_flatMap (fun w rest ws hrest => ?_) ws
  simp only [bytesLeastFirst_eq, List.cons_append, List.nil_append, programOfBytes, hrest, wordOfBytes_leastFirst]

theorem programOfBytes_opcodeFirst (ws : List Word) : programOfBytes .opcodeFirst (ws.flatMap bytesOpcodeFirst) = some ws := by
  refine programOfBytes_flatMap (fun w rest ws hrest => ?_) ws
  simp only [bytesOpcodeFirst, List.cons_append, List.nil_append, programOfBytes, hrest, wordOfBytes_opcodeFirst]

/-- Every bit vector of a width. -/
def allBitVecs (n : Nat) : List (BitVec n) := (List.range (2 ^ n)).map (BitVec.ofNat n)

theorem mem_allBitVecs {n : Nat} (b : BitVec n) : b ∈ allBitVecs n :=
  List.mem_map.mpr ⟨b.toNat, List.mem_range.mpr b.isLt, by rw [BitVec.ofNat_toNat, BitVec.setWidth_eq]⟩

/-- A table that pairs each of its keys with the value of a function gives that value. -/
theorem lookup_map_pair {n : Nat} {α : Type} (g : BitVec n → α) {k : BitVec n} {ks : List (BitVec n)} (h : k ∈ ks) :
    lookup k (ks.map fun k' => (k', g k')) = some (g k) := by
  induction ks with
  | nil => cases h
  | cons k' ks ih =>
    simp only [List.map_cons, lookup]
    split
    · subst k'; rfl
    · exact ih ((List.mem_cons.mp h).resolve_left ‹_›)

/-- The layout that reads eight bytes as a function of them says: a table of one row for each word. -/
def layoutOf (f : Byte → Byte → Byte → Byte → Byte → Byte → Byte → Byte → Word) : InsnLayout :=
  .table ((allBitVecs 64).map fun w => (w, f (w.extractLsb' 0 8) (w.extractLsb' 8 8) (w.extractLsb' 16 8) (w.extractLsb' 24 8)
    (w.extractLsb' 32 8) (w.extractLsb' 40 8) (w.extractLsb' 48 8) (w.extractLsb' 56 8)))

/-- Byte `k` of eight bytes joined to a word. -/
theorem extract_append_bytes (b0 b1 b2 b3 b4 b5 b6 b7 : Byte) :
    let w : Word := b7 ++ b6 ++ b5 ++ b4 ++ b3 ++ b2 ++ b1 ++ b0
    w.extractLsb' 0 8 = b0 ∧ w.extractLsb' 8 8 = b1 ∧ w.extractLsb' 16 8 = b2 ∧ w.extractLsb' 24 8 = b3 ∧
      w.extractLsb' 32 8 = b4 ∧ w.extractLsb' 40 8 = b5 ∧ w.extractLsb' 48 8 = b6 ∧ w.extractLsb' 56 8 = b7 := by
  have take {m : Nat} (x : BitVec m) (y : Byte) : (x ++ y).extractLsb' 0 8 = y := BitVec.extractLsb'_append_eq_right
  have drop {m : Nat} (x : BitVec m) (y : Byte) (k : Nat) : (x ++ y).extractLsb' (k + 8) 8 = x.extractLsb' k 8 :=
    BitVec.extractLsb'_append_eq_of_le (Nat.le_add_left 8 k)
  refine ⟨take _ _, ?_, ?_, ?_, ?_, ?_, ?_, ?top⟩
  case top =>
    repeat rw [drop]
    exact BitVec.extractLsb'_eq_self
  all_goals repeat rw [drop]
  all_goals exact take _ _

theorem wordOfBytes_layoutOf (f : Byte → Byte → Byte → Byte → Byte → Byte → Byte → Byte → Word) (b0 b1 b2 b3 b4 b5 b6 b7 : Byte) :
    wordOfBytes (layoutOf f) b0 b1 b2 b3 b4 b5 b6 b7 = f b0 b1 b2 b3 b4 b5 b6 b7 := by
  obtain ⟨h0, h1, h2, h3, h4, h5, h6, h7⟩ := extract_append_bytes b0 b1 b2 b3 b4 b5 b6 b7
  simp only [wordOfBytes, layoutOf, lookup_map_pair _ (mem_allBitVecs _), Option.getD_some, h0, h1, h2, h3, h4, h5, h6, h7]

/-- Settles O8: each named layout takes the word of eight bytes as `append_bytes` joins it, and a table can hold any function. -/
theorem byteLayoutsRoundTrip : Obligations.ByteLayoutsRoundTrip :=
  ⟨programOfBytes_leastFirst, programOfBytes_opcodeFirst, fun f => ⟨layoutOf f, wordOfBytes_layoutOf f⟩⟩

end Sys2Proof
end

section
/-! Proofs on one step: the fetch, the second slots of wide instructions, and a run that has ended. -/

namespace Sys2Proof.Machine

variable {s : State}

/-! ### The fetch of a running machine -/

theorem fetch_of_running (hrun : s.status = .running) {k : Nat} (hpc : s.pc = k) {w : Word} (hw : s.prog[k]? = some w) :
    fetch s = if isSecondSlot s.prog k then .error (.jumpIntoWide s.pc) else decodeAt s k w := by
  have hpc' : s.pc = Int.ofNat k := hpc
  simp only [fetch, hrun, hpc', hw]

theorem step_of_fetch_ok {i : Instr} (h : fetch s = .ok i) : step s = exec i s := by
  rw [step, h]

theorem step_of_fetch_error {f : Fault} (h : fetch s = .error f) : step s = .fault f := by
  rw [step, h]; rfl

/-- Settles O9: the fetch of a running machine decodes the word at `pc`, and the step runs what it gives. -/
theorem stepRunsDecodedInstruction : Obligations.StepRunsDecodedInstruction := by
  intro s k w i hrun hpc hw hsecond hdec
  refine step_of_fetch_ok ?_
  simp [fetch_of_running hrun hpc hw, hsecond, decodeAt, hdec]

/-! ### The faults of the fetch -/

/-- A wide load without a second word is cut off, if its first word passes the checks (`30_encoding.md` R80 steps 5 and 6). -/
theorem decode_none_of_isWideWord {neg : NegReading} {form : Imm64Form} {w w2 : Word} {i : Instr} (hwide : isWideWord w = true)
    (h : decode neg form w (some w2) = .ok i) : decode neg form w none = .error .truncatedWide := by
  rw [decode_of_isWideWord hwide] at h ⊢
  obtain ⟨hfields, h⟩ := ok_of_ite_ok h
  rw [decodeWide, if_pos hfields]
  split at h
  · cases h
  · obtain ⟨hwf, -⟩ := ok_of_ite_ok h
    simp only [hwf, if_true]

theorem fetch_of_outside (hrun : s.status = .running) (hpc : s.pc < 0 ∨ (s.prog.length : Int) ≤ s.pc) :
    fetch s = .error (.pcOutOfRange s.pc) := by
  cases hk : s.pc with
  | ofNat k =>
    rw [hk, Int.ofNat_eq_natCast] at hpc
    have hnone : s.prog[k]? = none := by rw [List.getElem?_eq_none_iff]; omega
    simp only [fetch, hrun, hk, hnone]
  | negSucc k => simp only [fetch, hrun, hk]

/-- Settles O10: each case of the fetch that gives no instruction. -/
theorem fetchFaults : Obligations.FetchFaults := by
  intro s hrun
  refine ⟨fun hpc => step_of_fetch_error (fetch_of_outside hrun hpc), fun k w hpc hw => ⟨fun hsecond => ?_, fun hsecond hdec => ?_,
    fun hsecond hlast ⟨w2, i, hdec, hwide⟩ => ?_⟩⟩
  all_goals
    refine step_of_fetch_error ?_
    rw [fetch_of_running hrun hpc hw, hsecond]
  · rfl
  · simp [decodeAt, hdec, hpc]
  · have hnone : s.prog[k + 1]? = none := by rw [List.getElem?_eq_none_iff]; omega
    simp [decodeAt, hnone, decode_none_of_isWideWord hwide hdec, hpc]

/-! ### Second slots -/

/-- The scan says of a slot what the one before it makes it (`60_exceptions.md` R245). -/
theorem scanSecond_succ {prog : List Word} {k : Nat} {w w2 : Word} (second : Bool) (hw : prog[k]? = some w)
    (hw2 : prog[k + 1]? = some w2) : scanSecond second prog (k + 1) = (!scanSecond second prog k && isWideWord w) := by
  induction k generalizing second prog with
  | zero =>
    match prog, hw, hw2 with
    | _ :: _ :: _, rfl, _ => rfl
  | succ k ih =>
    match prog, hw, hw2 with
    | _ :: rest, hw, hw2 => exact ih (prog := rest) _ hw hw2

/-- Settles O11: slot 0 starts the scan, and each further slot is decided by the one before it. -/
theorem secondSlotsAreFoundByScanning : Obligations.SecondSlotsAreFoundByScanning :=
  fun prog => ⟨by cases prog <;> rfl, fun _ _ _ hw hw2 => scanSecond_succ false hw hw2⟩

/-! ### A run that has ended -/

theorem step_of_not_running (h : s.status ≠ .running) : step s = .fault .notRunning := by
  refine step_of_fetch_error ?_
  cases hs : s.status with
  | running => exact absurd hs h
  | exited v => simp only [fetch, hs]
  | faulted f => simp only [fetch, hs]
  | refused r => simp only [fetch, hs]

/-- Settles O12: only a running machine fetches. -/
theorem endedRunHasNoSuccessor : Obligations.EndedRunHasNoSuccessor := fun _ h => step_of_not_running h

/-- Settles O13: `settle` changes the status alone, to one that is not running. -/
theorem settledFaultKeepsTheState : Obligations.SettledFaultKeepsTheState := by
  refine ⟨fun s f h => ?_, fun s r h => ?_⟩ <;> rw [h]
  · exact ⟨rfl, step_of_not_running (fun hrun : Status.faulted f = .running => by cases hrun)⟩
  · exact ⟨rfl, step_of_not_running (fun hrun : Status.refused r = .running => by cases hrun)⟩

end Sys2Proof.Machine
end

section
/-! Proofs on the frame of every instruction: what a next state keeps, from the shapes it can have (`NextShape`). -/

namespace Sys2Proof.Machine

variable {i : Instr} {s t : State}

/-! ### Program text, configuration, count of steps and status -/

theorem NextShape.keeps_prog_cfg (h : NextShape i s t) : t.prog = s.prog ∧ t.cfg = s.cfg ∧ t.steps = s.steps + 1 := by
  cases h with
  | called imm o => exact ⟨State.afterCall_prog s o, State.afterCall_cfg s o, State.afterCall_steps s o⟩
  | _ => exact ⟨rfl, rfl, rfl⟩

/-- Settles O17: every shape of a next state keeps program text and configuration, and counts one step. -/
theorem stepKeepsProgramAndConfiguration : Obligations.StepKeepsProgramAndConfiguration := by
  intro s t hstep
  obtain ⟨_, -, hexec⟩ := step_next hstep
  exact (exec_nextShape hexec).keeps_prog_cfg

/-- Settles O21: of the shapes of a next state only the end of the run changes the status. -/
theorem onlyExitEndsARunNormally : Obligations.OnlyExitEndsARunNormally := by
  intro i s t hexec hi
  cases exec_nextShape hexec with
  | called imm o => exact State.afterCall_status s o
  | exited v hexit => exact absurd hexit hi
  | _ => rfl

/-! ### Registers -/

/-- A register that an instruction does not write, or R10, is not the one register it writes. -/
theorem ne_of_not_written {d r : Reg} (hd : d ≠ .r10) (hw : writtenRegs i = [d]) (hr : r ∉ writtenRegs i ∨ r = .r10) : r ≠ d := by
  rintro rfl
  exact hr.elim (fun h => h (by simp [hw])) hd

/-- A call changes content or mark of R0 to R5 only (`43_jump.md` R175). -/
theorem State.afterCall_frame {r : Reg} (h : r ∉ [Reg.r0, .r1, .r2, .r3, .r4, .r5]) (s : State) (o : CallOutcome) :
    (s.afterCall o).regs.get r = s.regs.get r ∧ (s.afterCall o).isWritten r = s.isWritten r := by
  have hr0 : r ≠ .r0 := fun heq => h (by simp [heq])
  have hscratch : [Reg.r1, .r2, .r3, .r4, .r5].contains r = false :=
    Bool.eq_false_iff.mpr fun hc => h (List.mem_cons_of_mem _ (List.contains_iff_mem.mp hc))
  exact ⟨State.afterCall_get hr0 s o, by rw [State.afterCall_isWritten, if_neg hr0, hscratch]; rfl⟩

/-- Settles O18: every shape of a next state writes the registers of its column or none. -/
theorem registerFrame : Obligations.RegisterFrame := by
  intro i s t r hexec hr
  cases exec_nextShape hexec with
  | wroteReg d v hd hw => exact State.setReg_frame (ne_of_not_written hd hw hr) s v
  | wroteWide d v hd hw => exact State.setReg_frame (ne_of_not_written hd hw hr) s v
  | branched => exact ⟨rfl, rfl⟩
  | stored => exact ⟨rfl, rfl⟩
  | storedWrote b off z v d old hd hw => exact State.setReg_frame (ne_of_not_written hd hw hr) (s.store _ z v) old
  | compared b off z d old hd hw => exact State.setReg_frame (ne_of_not_written hd hw hr) s old
  | called imm o hi =>
    subst hi
    refine State.afterCall_frame ?_ s o
    rcases hr with hr | rfl
    · exact hr
    · decide
  | exited => exact ⟨rfl, rfl⟩

/-! ### Memory -/

theorem storeSpan_of_none (h : accessForm i = none) : storeSpan i s = none := by
  rw [storeSpan, h]

theorem storeSpan_of_read {b : Reg} {off : BitVec 16} {z : Size} (h : accessForm i = some (.read, b, off, z)) :
    storeSpan i s = none := by
  rw [storeSpan, h]

theorem storeSpan_of_store {kind : AccessKind} {b : Reg} {off : BitVec 16} {z : Size} (hk : kind ≠ .read)
    (h : accessForm i = some (kind, b, off, z)) :
    storeSpan i s = some (effectiveAddress (s.value 0 b) off, sizeBytes z) := by
  rw [storeSpan, h]
  cases kind with
  | read => exact absurd rfl hk
  | _ => rfl

/-- The bytes outside a store read as before it. -/
theorem State.memByte_store_outside {a : Word} {z : Size} {x : Nat} (h : x < a.toNat ∨ a.toNat + sizeBytes z ≤ x) (s : State)
    (v : Word) : memByte (s.store a z v).mem x = memByte s.mem x :=
  memByte_memWrite_outside h _ _ _

/-- Settles O19: every shape of a next state stores at the address of its access form or nowhere. -/
theorem memoryFrame : Obligations.MemoryFrame := by
  intro i s t hexec hcall
  cases exec_nextShape hexec with
  | wroteReg d v _ _ ha =>
    have hspan : storeSpan i s = none := by
      rcases ha with ha | ⟨_, _, _, ha⟩
      · exact storeSpan_of_none ha
      · exact storeSpan_of_read ha
    rw [hspan]
    exact fun _ => rfl
  | wroteWide d v _ _ ha =>
    rw [storeSpan_of_none ha]
    exact fun _ => rfl
  | branched taken off _ ha =>
    rw [storeSpan_of_none ha]
    exact fun _ => rfl
  | stored kind b off z v hk _ ha hm =>
    rw [storeSpan_of_store hk ha]
    exact ⟨admits_le hm, fun _ hx => s.memByte_store_outside hx v⟩
  | storedWrote b off z v _ _ _ _ ha hm =>
    rw [storeSpan_of_store (by decide) ha]
    exact ⟨admits_le hm, fun _ hx => s.memByte_store_outside hx v⟩
  | compared b off z _ _ _ _ ha hm =>
    rw [storeSpan_of_store (by decide) ha]
    exact ⟨admits_le hm, fun _ _ => rfl⟩
  | called imm _ hi => exact absurd hi (hcall imm)
  | exited _ hi =>
    subst hi
    exact fun _ => rfl

/-- Settles O20: the stores of a called function take place only where it may store. -/
theorem callMemoryFrame : Obligations.CallMemoryFrame := by
  intro imm s t x hexec hx
  obtain ⟨f, -, -, rfl⟩ := execCall_next hexec
  rw [State.afterCall_mem]
  refine memByte_callMemory_outside (fun a z ha hlt => ?_) _ _
  obtain ⟨hwrite, hatomic⟩ := hx a z ha hlt
  simp [fnMay, hwrite, hatomic]

/-! ### The program counter -/

/-- Settles O22: each shape of a next state goes past the words of its instruction, or branches, or ends the run. -/
theorem programCounterAdvance : Obligations.ProgramCounterAdvance := by
  intro i s t hexec
  cases exec_nextShape hexec with
  | wroteReg _ _ _ _ _ hl he => exact .inl ⟨he, by rw [hl]; rfl⟩
  | wroteWide _ _ _ _ _ hl he => exact .inl ⟨he, by rw [hl]; rfl⟩
  | branched taken off _ _ hj hl he =>
    cases taken with
    | true => exact .inr (.inl ⟨off, hj, rfl⟩)
    | false => exact .inl ⟨he, by rw [hl]; rfl⟩
  | stored _ _ _ _ _ _ _ _ _ hl he => exact .inl ⟨he, by rw [hl]; rfl⟩
  | storedWrote _ _ _ _ _ _ _ _ _ _ hl he => exact .inl ⟨he, by rw [hl]; rfl⟩
  | compared _ _ _ _ _ _ _ _ _ hl he => exact .inl ⟨he, by rw [hl]; rfl⟩
  | called imm o hi =>
    subst hi
    exact .inl ⟨by simp, by rw [State.afterCall_pc]; rfl⟩
  | exited _ hi => exact .inr (.inr ⟨hi, rfl⟩)

/-! ### The state at entry -/

/-- Settles O14: the launch writes R10 and the entry arguments that are given, and no other register. -/
theorem launchState : Obligations.LaunchState := by
  intro cfg prog mem
  refine ⟨rfl, rfl, fun _ => rfl, rfl, rfl, rfl, ?_, ?_⟩
  · intro p hp
    simp only [List.mem_cons, List.not_mem_nil, or_false] at hp
    rcases hp with rfl | rfl | rfl | rfl | rfl
    all_goals
      refine ⟨rfl, fun v k hv => ?_⟩
      simp only at hv
      simp [State.value, State.isWritten, Marks.get, RegFile.get, State.launch, hv]
  · intro r hr
    simp only [List.mem_cons, List.not_mem_nil, or_false] at hr
    rcases hr with rfl | rfl | rfl | rfl | rfl <;> rfl

/-- Settles O15: a launch holds `FP_INIT` in R10 and the memory it is given. -/
theorem resetMeetsInvariant : Obligations.ResetMeetsInvariant :=
  ⟨⟨wf_reset, rfl⟩, fun _ _ _ hmem => ⟨hmem, rfl⟩⟩

end Sys2Proof.Machine
end

section
/-! Proofs on the checks of an instruction. Each instruction is the check of `legal`, then its register reads, then its data access, and
then an outcome that is no fault: said once for all of them (`exec_eq_checks`), this gives what it faults with and in which order. -/

namespace Sys2Proof.Machine

variable {i : Instr} {s t : State}

/-! ### The checks -/

/-- The checks of the registers an instruction reads, in order (`60_exceptions.md` R247). -/
def checkReads (rs : List Reg) (s : State) (k : Out) : Out :=
  match rs with
  | [] => k
  | r :: rest => if s.readable r then checkReads rest s k else raise (.uninitRegister s.pc r)

/-- The checks of the data access of an instruction, if it has one (`60_exceptions.md` R248, R249). -/
def checkAccess (form : Option (AccessKind × Reg × BitVec 16 × Size)) (s : State) (k : Out) : Out :=
  match form with
  | none => k
  | some (kind, b, off, z) => access kind z (effectiveAddress (s.value 0 b) off) s k

theorem checkReads_of_readable {rs : List Reg} (h : ∀ r ∈ rs, s.readable r = true) (k : Out) : checkReads rs s k = k := by
  induction rs with
  | nil => rfl
  | cons r rest ih =>
    rw [checkReads, if_pos (h r List.mem_cons_self)]
    exact ih fun q hq => h q (List.mem_cons_of_mem _ hq)

theorem checkReads_of_find {rs : List Reg} {r : Reg} (h : rs.find? (fun q => !s.readable q) = some r) (k : Out) :
    checkReads rs s k = .fault (.uninitRegister s.pc r) := by
  induction rs with
  | nil => cases h
  | cons q rest ih =>
    cases hq : s.readable q with
    | true => rw [checkReads, if_pos hq]; exact ih (by simpa [hq] using h)
    | false =>
      obtain rfl : q = r := by simpa [hq] using h
      rw [checkReads, if_neg (by simp [hq])]
      rfl

/-- Either all registers can be read, or there is a first one that cannot. -/
theorem readable_or_find (rs : List Reg) (s : State) :
    (∀ r ∈ rs, s.readable r = true) ∨ ∃ r, rs.find? (fun q => !s.readable q) = some r := by
  cases h : rs.find? (fun q => !s.readable q) with
  | none => exact .inl (by simpa using List.find?_eq_none.mp h)
  | some r => exact .inr ⟨r, rfl⟩

/-- A register that cannot be read is unwritten, in a launch that faults on that (`10_state.md` R33). -/
theorem not_readable_iff {r : Reg} : s.readable r = false ↔ s.isWritten r = false ∧ s.cfg.unwrittenRead = .fault := by
  rw [State.readable, Bool.or_eq_false_iff]
  cases s.cfg.unwrittenRead <;> simp

/-- The reads of the arguments of a call are checked like the others. -/
theorem readRegs_eq_checkReads (rs : List Reg) (s : State) (k : List Word → Out) :
    readRegs rs s k = checkReads rs s (k (rs.map (s.value 0))) := by
  induction rs generalizing k with
  | nil => rfl
  | cons r rest ih =>
    rw [readRegs, readReg, checkReads, ih]
    rfl

/-! ### What is left after the checks -/

/-- The outcome of an instruction but `call` whose checks have passed: a next state, or one of the refusals of D27. -/
inductive AfterChecks (i : Instr) (s : State) : Out → Prop
  | completes (t : State) : AfterChecks i s (.next t)
  | legacy (h : ∃ size rest, i = .ldAbs size rest ∨ i = .ldInd size rest) : AfterChecks i s (.refused .legacyPacketAccess)
  | shift64 (d : Reg) (o : Operand) (hp : s.cfg.shiftPolicy = .refuse) (hc : 64 ≤ srcNat64 s o)
      (hi : i = aluForm .lsh64K .lsh64X d o ∨ i = aluForm .rsh64K .rsh64X d o ∨ i = aluForm .arsh64K .arsh64X d o) :
      AfterChecks i s (.refused .shiftCount)
  | shift32 (d : Reg) (o : Operand) (hp : s.cfg.shiftPolicy = .refuse) (hc : 32 ≤ srcNat32 s o)
      (hi : i = aluForm .lsh32K .lsh32X d o ∨ i = aluForm .rsh32K .rsh32X d o ∨ i = aluForm .arsh32K .arsh32X d o) :
      AfterChecks i s (.refused .shiftCount)

theorem shiftCount_of_lt {w : Nat} {c : BitVec w} (h : c.toNat < w) : shiftCount .refuse c = some c.toNat := by
  rw [shiftCount, if_pos h]

theorem shiftCount_of_le {w : Nat} {c : BitVec w} (h : w ≤ c.toNat) : shiftCount .refuse c = none := by
  rw [shiftCount, if_neg (by omega)]

/-- A shift completes, unless the launch refuses its count (`40_alu64.md` R107). -/
theorem withCount_cases {w : Nat} (c : BitVec w) (s : State) (f : Nat → State) :
    (∃ t, withCount s c (fun n => .next (f n)) = .next t) ∨
      (withCount s c (fun n => .next (f n)) = .refused .shiftCount ∧ s.cfg.shiftPolicy = .refuse ∧ w ≤ c.toNat) := by
  unfold withCount
  cases hp : s.cfg.shiftPolicy with
  | mask => exact .inl ⟨_, rfl⟩
  | refuse =>
    rcases Nat.lt_or_ge c.toNat w with h | h
    · rw [shiftCount_of_lt h]; exact .inl ⟨_, rfl⟩
    · rw [shiftCount_of_le h]; exact .inr ⟨rfl, rfl, h⟩

theorem toNat_operandValue32 (o : Operand) (s : State) : (operandValue32 o s).toNat = srcNat32 s o := by
  cases o with
  | reg r => exact BitVec.toNat_setWidth _ _
  | imm m => rfl

theorem afterChecks_shift64 {d : Reg} {o : Operand} (f : Nat → State)
    (hi : i = aluForm .lsh64K .lsh64X d o ∨ i = aluForm .rsh64K .rsh64X d o ∨ i = aluForm .arsh64K .arsh64X d o) :
    AfterChecks i s (withCount s (operandValue64 o s) fun n => .next (f n)) := by
  rcases withCount_cases (operandValue64 o s) s f with ⟨t, h⟩ | ⟨h, hp, hc⟩ <;> rw [h]
  · exact .completes t
  · exact .shift64 d o hp (by rwa [← toNat_operandValue64]) hi

theorem afterChecks_shift32 {d : Reg} {o : Operand} (f : Nat → State)
    (hi : i = aluForm .lsh32K .lsh32X d o ∨ i = aluForm .rsh32K .rsh32X d o ∨ i = aluForm .arsh32K .arsh32X d o) :
    AfterChecks i s (withCount s (operandValue32 o s) fun n => .next (f n)) := by
  rcases withCount_cases (operandValue32 o s) s f with ⟨t, h⟩ | ⟨h, hp, hc⟩ <;> rw [h]
  · exact .completes t
  · exact .shift32 d o hp (by rwa [← toNat_operandValue32]) hi

/-- The register an operand reads. -/
def operandRegs : Operand → List Reg
  | .reg r => [r]
  | .imm _ => []

/-- `BPF_NEG` reads its source or its destination, by `NEG_READING`, and completes (`40_alu64.md` R109). -/
theorem neg64_eq_checks (d : Reg) (o : Operand) (s : State) : ∃ t,
    neg64 d o s = checkReads (if s.cfg.negReading = .source then operandRegs o else [d]) s (.next t) := by
  unfold neg64
  cases s.cfg.negReading with
  | source => cases o <;> exact ⟨_, rfl⟩
  | negateDst => exact ⟨_, rfl⟩

theorem neg32_eq_checks (d : Reg) (o : Operand) (s : State) : ∃ t,
    neg32 d o s = checkReads (if s.cfg.negReading = .source then operandRegs o else [d]) s (.next t) := by
  unfold neg32
  cases s.cfg.negReading with
  | source => cases o <;> exact ⟨_, rfl⟩
  | negateDst => exact ⟨_, rfl⟩

/-- Every instruction but `call` makes its checks in the order of `60_exceptions.md` R252, and nothing after them faults. -/
theorem exec_eq_checks (hcall : ∀ imm, i ≠ .call imm) (s : State) :
    ∃ k, AfterChecks i s k ∧
      exec i s = legal i s (checkReads (readRegList s.cfg.negReading i) s (checkAccess (accessForm i) s k)) := by
  cases i
  case call imm => exact absurd rfl (hcall imm)
  case ldAbs size rest => exact ⟨_, .legacy ⟨size, rest, .inl rfl⟩, (legal_of_wellFormed rfl).symm⟩
  case ldInd size rest => exact ⟨_, .legacy ⟨size, rest, .inr rfl⟩, (legal_of_wellFormed rfl).symm⟩
  case lsh64K d m => exact ⟨_, afterChecks_shift64 (o := .imm m) _ (.inl rfl), rfl⟩
  case lsh64X d r => exact ⟨_, afterChecks_shift64 (o := .reg r) _ (.inl rfl), rfl⟩
  case rsh64K d m => exact ⟨_, afterChecks_shift64 (o := .imm m) _ (.inr (.inl rfl)), rfl⟩
  case rsh64X d r => exact ⟨_, afterChecks_shift64 (o := .reg r) _ (.inr (.inl rfl)), rfl⟩
  case arsh64K d m => exact ⟨_, afterChecks_shift64 (o := .imm m) _ (.inr (.inr rfl)), rfl⟩
  case arsh64X d r => exact ⟨_, afterChecks_shift64 (o := .reg r) _ (.inr (.inr rfl)), rfl⟩
  case lsh32K d m => exact ⟨_, afterChecks_shift32 (o := .imm m) _ (.inl rfl), rfl⟩
  case lsh32X d r => exact ⟨_, afterChecks_shift32 (o := .reg r) _ (.inl rfl), rfl⟩
  case rsh32K d m => exact ⟨_, afterChecks_shift32 (o := .imm m) _ (.inr (.inl rfl)), rfl⟩
  case rsh32X d r => exact ⟨_, afterChecks_shift32 (o := .reg r) _ (.inr (.inl rfl)), rfl⟩
  case arsh32K d m => exact ⟨_, afterChecks_shift32 (o := .imm m) _ (.inr (.inr rfl)), rfl⟩
  case arsh32X d r => exact ⟨_, afterChecks_shift32 (o := .reg r) _ (.inr (.inr rfl)), rfl⟩
  case neg64K d m =>
    obtain ⟨t, h⟩ := neg64_eq_checks d (.imm m) s
    exact ⟨_, .completes t, congrArg (legal _ s) h⟩
  case neg64X d r =>
    obtain ⟨t, h⟩ := neg64_eq_checks d (.reg r) s
    exact ⟨_, .completes t, congrArg (legal _ s) h⟩
  case neg32K d m =>
    obtain ⟨t, h⟩ := neg32_eq_checks d (.imm m) s
    exact ⟨_, .completes t, congrArg (legal _ s) h⟩
  case neg32X d r =>
    obtain ⟨t, h⟩ := neg32_eq_checks d (.reg r) s
    exact ⟨_, .completes t, congrArg (legal _ s) h⟩
  -- Every other instruction completes once its checks have passed.
  all_goals exact ⟨_, .completes _, rfl⟩

/-! ### Faults -/

/-- A call of a known function checks its arguments, R1 upward, and completes (`43_jump.md` R175). -/
theorem exec_call_of_findFn {imm : BitVec 32} {f : PlatformFn} (h : findFn imm s.cfg.callTable = some f) :
    exec (.call imm) s = checkReads (argRegs f) s
      (.next (s.afterCall (callOutcome s.cfg (s.callSite f ((argRegs f).map (s.value 0))) f))) := by
  rw [← readRegs_eq_checkReads (argRegs f) s fun args => .next (s.afterCall (callOutcome s.cfg (s.callSite f args) f))]
  show legal (.call imm) s _ = _
  rw [h]
  exact legal_of_wellFormed rfl

theorem exec_call_of_not_findFn {imm : BitVec 32} (h : findFn imm s.cfg.callTable = none) :
    exec (.call imm) s = .refused (.unknownCall imm) := by
  show legal (.call imm) s _ = _
  rw [h]
  exact legal_of_wellFormed rfl

/-- Settles O43: the function is looked up before the arguments are checked. -/
theorem callStops : Obligations.CallStops := by
  intro s imm
  refine ⟨exec_call_of_not_findFn, fun f r hf hr => ?_⟩
  rw [exec_call_of_findFn hf]
  exact checkReads_of_find hr _

/-- Settles O26: the register checks of a well-formed instruction come first, in the order of its column. -/
theorem unwrittenOperandFaults : Obligations.UnwrittenOperandFaults := by
  intro i s r hwf hr
  have hcall : ∀ imm, i ≠ .call imm := by rintro imm rfl; cases hr
  obtain ⟨k, -, hexec⟩ := exec_eq_checks hcall s
  rw [hexec, legal_of_wellFormed hwf]
  exact checkReads_of_find hr _

/-- An instruction that is well formed and whose registers can be read comes to its data access. -/
theorem exec_eq_checkAccess (hcall : ∀ imm, i ≠ .call imm) (hwf : i.wellFormed s.cfg.negReading = true)
    (hread : ∀ r ∈ readRegList s.cfg.negReading i, s.readable r = true) :
    ∃ k, AfterChecks i s k ∧ exec i s = checkAccess (accessForm i) s k := by
  obtain ⟨k, hk, hexec⟩ := exec_eq_checks hcall s
  exact ⟨k, hk, by rw [hexec, legal_of_wellFormed hwf, checkReads_of_readable hread]⟩

theorem access_of_misaligned {kind : AccessKind} {z : Size} {a : Word} {k : Out}
    (h : aligned s.cfg kind a.toNat (sizeBytes z) = false) : access kind z a s k = .fault (.misalignedAccess s.pc a (sizeBytes z)) := by
  rw [access, if_neg (by simp [h])]
  rfl

theorem access_of_unadmitted {kind : AccessKind} {z : Size} {a : Word} {k : Out}
    (h1 : aligned s.cfg kind a.toNat (sizeBytes z) = true) (h2 : admits s.cfg kind a.toNat (sizeBytes z) = false) :
    access kind z a s k = .fault (.memoryFault s.pc a (sizeBytes z) kind) := by
  rw [access, if_pos h1, if_neg (by simp [h2])]
  rfl

/-- Settles O50: the two checks of `access`, in their order. -/
theorem accessFaultOrder : Obligations.AccessFaultOrder := by
  intro i s kind b off z hform hwf hread
  have hcall : ∀ imm, i ≠ .call imm := by rintro imm rfl; cases hform
  obtain ⟨k, -, hexec⟩ := exec_eq_checkAccess hcall hwf hread
  rw [hexec, hform]
  exact ⟨access_of_misaligned, access_of_unadmitted⟩

/-- An access that faults is misaligned, or aligned and not one of those that `MEM_ADMIT` lets through. -/
theorem access_fault {kind : AccessKind} {z : Size} {a : Word} {k : Out} {f : Fault} (h : access kind z a s k = .fault f) :
    k = .fault f ∨
      (aligned s.cfg kind a.toNat (sizeBytes z) = false ∧ f = .misalignedAccess s.pc a (sizeBytes z)) ∨
      (aligned s.cfg kind a.toNat (sizeBytes z) = true ∧ admits s.cfg kind a.toNat (sizeBytes z) = false ∧
        f = .memoryFault s.pc a (sizeBytes z) kind) := by
  cases h1 : aligned s.cfg kind a.toNat (sizeBytes z) with
  | false => rw [access_of_misaligned h1] at h; cases h; exact .inr (.inl ⟨rfl, rfl⟩)
  | true =>
    cases h2 : admits s.cfg kind a.toNat (sizeBytes z) with
    | false => rw [access_of_unadmitted h1 h2] at h; cases h; exact .inr (.inr ⟨rfl, rfl, rfl⟩)
    | true => rw [access_of_admitted h1 h2] at h; exact .inl h

/-- A register check that faults reports the first register that cannot be read, and that register is unwritten. -/
theorem checkReads_fault {rs : List Reg} {k : Out} {f : Fault} (h : checkReads rs s k = .fault f) :
    ((∀ r ∈ rs, s.readable r = true) ∧ k = .fault f) ∨
      ∃ r, f = .uninitRegister s.pc r ∧ s.isWritten r = false ∧ s.cfg.unwrittenRead = .fault ∧
        rs.find? (fun q => !s.readable q) = some r := by
  rcases readable_or_find rs s with hread | ⟨r, hr⟩
  · rw [checkReads_of_readable hread] at h
    exact .inl ⟨hread, h⟩
  · rw [checkReads_of_find hr] at h
    cases h
    obtain ⟨hw, hcfg⟩ := not_readable_iff.mp (by simpa using List.find?_some hr)
    exact .inr ⟨r, rfl, hw, hcfg, hr⟩

/-- The fault of a call names the first argument register that cannot be read. -/
theorem exec_call_fault {imm : BitVec 32} {f : Fault} (h : exec (.call imm) s = .fault f) :
    ∃ r, f = .uninitRegister s.pc r ∧ s.isWritten r = false ∧ s.cfg.unwrittenRead = .fault ∧
      ∃ fn, findFn imm s.cfg.callTable = some fn ∧ (argRegs fn).find? (fun q => !s.readable q) = some r := by
  cases hfn : findFn imm s.cfg.callTable with
  | none => rw [exec_call_of_not_findFn hfn] at h; cases h
  | some fn =>
    rw [exec_call_of_findFn hfn] at h
    rcases checkReads_fault h with ⟨-, h⟩ | ⟨r, hf, hw, hcfg, hr⟩
    · cases h
    · exact ⟨r, hf, hw, hcfg, fn, rfl, hr⟩

/-- Settles O24: a fault comes from the first check of an instruction that fails. -/
theorem faultsAreTheSpecs : Obligations.FaultsAreTheSpecs := by
  intro i s f hfault
  cases hwf : i.wellFormed s.cfg.negReading with
  | false =>
    rw [exec_of_not_wellFormed hwf] at hfault
    cases hfault
    exact .inl ⟨rfl, rfl⟩
  | true =>
    refine .inr ⟨rfl, ?_⟩
    by_cases hcall : ∃ imm, i = .call imm
    · obtain ⟨imm, rfl⟩ := hcall
      obtain ⟨r, hf, hw, hcfg, fn, hfn, hr⟩ := exec_call_fault hfault
      exact .inl ⟨r, hf, hw, hcfg, .inr ⟨imm, fn, rfl, hfn, hr⟩⟩
    obtain ⟨k, hk, hexec⟩ := exec_eq_checks (fun imm heq => hcall ⟨imm, heq⟩) s
    have hkf : k ≠ .fault f := by rintro rfl; cases hk
    rw [hexec, legal_of_wellFormed hwf] at hfault
    rcases checkReads_fault hfault with ⟨hread, haccess⟩ | ⟨r, hf, hw, hcfg, hr⟩
    · refine .inr ⟨hread, ?_⟩
      rcases hform : accessForm i with _ | ⟨kind, b, off, z⟩ <;> rw [hform] at haccess
      · exact absurd haccess hkf
      · exact ⟨kind, b, off, z, rfl, (access_fault haccess).resolve_left hkf⟩
    · exact .inl ⟨r, hf, hw, hcfg, .inl hr⟩

/-! ### Refusals -/

theorem legal_refused {k : Out} {r : Refusal} (h : legal i s k = .refused r) : k = .refused r := by
  unfold legal at h
  split at h
  · exact h
  · cases h

theorem checkReads_refused {rs : List Reg} {k : Out} {r : Refusal} (h : checkReads rs s k = .refused r) : k = .refused r := by
  rcases readable_or_find rs s with hread | ⟨q, hq⟩
  · rwa [checkReads_of_readable hread] at h
  · rw [checkReads_of_find hq] at h; cases h

theorem checkAccess_refused {form : Option (AccessKind × Reg × BitVec 16 × Size)} {k : Out} {r : Refusal}
    (h : checkAccess form s k = .refused r) : k = .refused r := by
  rcases form with _ | ⟨kind, b, off, z⟩
  · exact h
  · simp only [checkAccess, access] at h
    split at h
    · split at h
      · exact h
      · cases h
    · cases h

/-- Settles O23: no check refuses, so that a refusal is what is left after the checks, or an unknown call. -/
theorem refusalsAreTheSpecs : Obligations.RefusalsAreTheSpecs := by
  intro i s r hrefused
  by_cases hcall : ∃ imm, i = .call imm
  · obtain ⟨imm, rfl⟩ := hcall
    cases hfn : findFn imm s.cfg.callTable with
    | none =>
      rw [exec_call_of_not_findFn hfn] at hrefused
      cases hrefused
      exact .inr (.inl ⟨imm, rfl, rfl, hfn⟩)
    | some fn =>
      rw [exec_call_of_findFn hfn] at hrefused
      cases checkReads_refused hrefused
  obtain ⟨k, hk, hexec⟩ := exec_eq_checks (fun imm heq => hcall ⟨imm, heq⟩) s
  rw [hexec] at hrefused
  obtain rfl : k = .refused r := checkAccess_refused (checkReads_refused (legal_refused hrefused))
  cases hk with
  | legacy h => exact .inl ⟨rfl, h⟩
  | shift64 d o hp hc hi => exact .inr (.inr ⟨rfl, hp, d, o, .inl ⟨hc, hi⟩⟩)
  | shift32 d o hp hc hi => exact .inr (.inr ⟨rfl, hp, d, o, .inr ⟨hc, hi⟩⟩)

/-! ### A launch that draws -/

theorem exec_ne_uninitRegister (hdraw : s.cfg.unwrittenRead = .draw) (i : Instr) (p : Int) (r : Reg) :
    exec i s ≠ .fault (.uninitRegister p r) := by
  intro h
  rcases faultsAreTheSpecs i s _ h with ⟨-, h⟩ | ⟨-, ⟨_, -, -, hfault, -⟩ | ⟨-, _, _, _, _, -, ⟨-, h⟩ | ⟨-, -, h⟩⟩⟩
  · cases h
  · rw [hdraw] at hfault; cases hfault
  · cases h
  · cases h

end Sys2Proof.Machine
end

section
/-! Proofs on arithmetic: the results of the 64-bit and 32-bit instructions as numbers. Each instruction is a shared operation (`alu64`,
`shift64`, `neg64`, `mov64` and the same at 32 bits), which has one lemma about its effect. -/

namespace Sys2Proof.Machine

variable {s : State} {d : Reg} {o : Operand}

/-! ### Numbers of bit vectors -/

theorem toNat_sub_eq {w : Nat} (a b : BitVec w) : (a - b).toNat = (a.toNat + 2 ^ w - b.toNat) % 2 ^ w := by
  have hb := b.isLt
  rw [BitVec.toNat_sub]
  congr 1
  omega

/-- `signedNat` is the two's complement reading (`00_scope.md` R9). -/
theorem signedNat_toNat {w : Nat} (b : BitVec (w + 1)) : signedNat (w + 1) b.toNat = b.toInt := by
  rw [signedNat, BitVec.toInt_eq_toNat_cond, Nat.add_sub_cancel, Nat.pow_succ]
  push_cast
  split_ifs <;> omega

theorem toNat_eq_toInt_emod {w : Nat} (b : BitVec w) : b.toNat = (b.toInt % 2 ^ w).toNat := by
  have hmod : b.toInt % ((2 ^ w : Nat) : Int) = (b.toNat : Int) % ((2 ^ w : Nat) : Int) := by
    rw [BitVec.toInt_eq_toNat_bmod, Int.bmod_emod]
  rw [Nat.cast_pow, Nat.cast_ofNat] at hmod
  rw [hmod]
  norm_cast
  exact (Nat.mod_eq_of_lt b.isLt).symm

theorem toNat_lshOp {w : Nat} (b : BitVec w) (n : Nat) : (lshOp b n).toNat = b.toNat * 2 ^ n % 2 ^ w := by
  rw [lshOp, BitVec.toNat_shiftLeft, Nat.shiftLeft_eq]

theorem toNat_rshOp {w : Nat} (b : BitVec w) (n : Nat) : (rshOp b n).toNat = b.toNat / 2 ^ n := by
  rw [rshOp, BitVec.toNat_ushiftRight, Nat.shiftRight_eq_div_pow]

/-- `arshOp` divides the signed value, rounding down (`40_alu64.md` R113). -/
theorem toNat_arshOp {w : Nat} (b : BitVec (w + 1)) (n : Nat) :
    (arshOp b n).toNat = (signedNat (w + 1) b.toNat / 2 ^ n % 2 ^ (w + 1)).toNat := by
  rw [toNat_eq_toInt_emod, arshOp, BitVec.toInt_sshiftRight, signedNat_toNat, Int.shiftRight_eq_div_pow]
  norm_cast

/-! ### 64-bit arithmetic -/

/-- A state whose registers and marks are those of the write of one register. -/
theorem writesOnly_of_set {t : State} {v : Word} (hd : d ≠ .r10) (hregs : t.regs = s.regs.set d v)
    (hmarks : t.written = s.written.set d true) : WritesOnly s t (some (d, v.toNat)) := by
  have hmark : ∀ r, t.isWritten r = (s.written.set d true).get r := fun r => by rw [State.isWritten, hmarks]
  refine ⟨by rw [hregs, RegFile.get_set_self hd], by rw [hmark, Marks.get_set_self hd], fun r hr => ?_⟩
  rw [hregs, hmark, RegFile.get_set_ne hr, Marks.get_set_ne hr]
  exact ⟨rfl, rfl⟩

/-- The six operations of R101 to R106 and R111, whose destination may be written, are `alu64` of their function. -/
theorem exec_alu64 (hd : d ≠ .r10) (o : Operand) (s : State) :
    exec (aluForm .add64K .add64X d o) s = alu64 (· + ·) d o s ∧ exec (aluForm .sub64K .sub64X d o) s = alu64 (· - ·) d o s ∧
    exec (aluForm .mul64K .mul64X d o) s = alu64 (· * ·) d o s ∧ exec (aluForm .or64K .or64X d o) s = alu64 (· ||| ·) d o s ∧
    exec (aluForm .and64K .and64X d o) s = alu64 (· &&& ·) d o s ∧ exec (aluForm .xor64K .xor64X d o) s = alu64 (· ^^^ ·) d o s := by
  have hw : d.writable = true := writable_of_ne_r10 hd
  cases o <;> exact ⟨legal_of_wellFormed hw, legal_of_wellFormed hw, legal_of_wellFormed hw, legal_of_wellFormed hw,
    legal_of_wellFormed hw, legal_of_wellFormed hw⟩

/-- The effect of an instruction that is `alu64` of a function, given what the function is on numbers. -/
theorem stepEffect_of_alu64 (hd : d ≠ .r10) (hread : s.readable d = true) (hsrc : srcReadable s o) {i : Instr}
    {f : Word → Word → Word} {g : Nat → Nat → Nat} (hexec : exec i s = alu64 f d o s)
    (hf : ∀ a b : Word, (f a b).toNat = g a.toNat b.toNat) :
    StepEffect (exec i s) s (s.pc + 1) (some (d, g (s.value 0 d).toNat (srcNat64 s o))) none := by
  rw [hexec, ← toNat_operandValue64, ← hf]
  exact stepEffect_alu64 hd hread hsrc f

/-- Settles O28: each instruction is `alu64` of the bit vector operation whose number the statement gives. -/
theorem alu64Results : Obligations.Alu64Results := by
  intro s d o hd hread hsrc
  obtain ⟨hadd, hsub, hmul, hor, hand, hxor⟩ := exec_alu64 hd o s
  exact ⟨stepEffect_of_alu64 (g := fun a b => (a + b) % 2 ^ 64) hd hread hsrc hadd BitVec.toNat_add,
    stepEffect_of_alu64 (g := fun a b => (a + 2 ^ 64 - b) % 2 ^ 64) hd hread hsrc hsub toNat_sub_eq,
    stepEffect_of_alu64 (g := fun a b => a * b % 2 ^ 64) hd hread hsrc hmul BitVec.toNat_mul,
    stepEffect_of_alu64 hd hread hsrc hor BitVec.toNat_or,
    stepEffect_of_alu64 hd hread hsrc hand BitVec.toNat_and, stepEffect_of_alu64 hd hread hsrc hxor BitVec.toNat_xor⟩

/-- Settles O27: where the launch draws every register can be read, each read of a subtraction giving its own value. -/
theorem unwrittenRegistersAreDrawnOtherwise : Obligations.UnwrittenRegistersAreDrawnOtherwise := by
  intro s hdraw
  refine ⟨exec_ne_uninitRegister hdraw, fun d r hd => ?_⟩
  have hgot : ∀ (k : Nat) (q : Reg), (if s.isWritten q then (s.regs.get q).toNat
      else (Config.unwrittenReg s.steps k (regNumber q)).toNat) = (s.value k q).toNat := by
    intro k q
    rw [State.value]
    split <;> rfl
  obtain ⟨-, hsub, -⟩ := alu64Results s d (.reg r) hd (readable_of_draw hdraw d) (readable_of_draw hdraw r)
  simp only [hgot]
  exact hsub

/-- A 64-bit shift whose operands can be read completes if the launch gives it a count (`40_alu64.md` R107). -/
theorem stepEffect_shift64 (hd : d ≠ .r10) (hread : s.readable d = true) (hsrc : srcReadable s o) {n : Nat}
    (hcount : shiftCount s.cfg.shiftPolicy (operandValue64 o s) = some n) (f : Word → Nat → Word) :
    StepEffect (shift64 f d o s) s (s.pc + 1) (some (d, (f (s.value 0 d) n).toNat)) none := by
  rw [shift64, readReg_of_readable hread, operand64_of_readable hsrc, withCount, hcount]
  exact stepEffect_finish hd s _

theorem shift64_refused (hread : s.readable d = true) (hsrc : srcReadable s o)
    (hcount : shiftCount s.cfg.shiftPolicy (operandValue64 o s) = none) (f : Word → Nat → Word) :
    shift64 f d o s = .refused .shiftCount := by
  rw [shift64, readReg_of_readable hread, operand64_of_readable hsrc, withCount, hcount]
  rfl

theorem exec_shift64 (hd : d ≠ .r10) (o : Operand) (s : State) :
    exec (aluForm .lsh64K .lsh64X d o) s = shift64 lshOp d o s ∧ exec (aluForm .rsh64K .rsh64X d o) s = shift64 rshOp d o s ∧
    exec (aluForm .arsh64K .arsh64X d o) s = shift64 arshOp d o s := by
  have hw : d.writable = true := writable_of_ne_r10 hd
  cases o <;> exact ⟨legal_of_wellFormed hw, legal_of_wellFormed hw, legal_of_wellFormed hw⟩

/-- The count that a launch gives a shift: the operand modulo the width, or the operand itself below the width. -/
theorem shiftCount_eq_some {w n : Nat} {c : BitVec w} {policy : ShiftPolicy}
    (h : (policy = .mask ∧ n = c.toNat % w) ∨ (policy = .refuse ∧ n = c.toNat ∧ c.toNat < w)) :
    shiftCount policy c = some n := by
  rcases h with ⟨rfl, rfl⟩ | ⟨rfl, rfl, hlt⟩
  · rfl
  · exact shiftCount_of_lt hlt

/-- Settles O31: each instruction is `shift64` of its operation, with the count that the policy gives. -/
theorem shift64Results : Obligations.Shift64Results := by
  intro s d o hd hread hsrc
  obtain ⟨hlsh, hrsh, harsh⟩ := exec_shift64 hd o s
  simp only [hlsh, hrsh, harsh, ← toNat_operandValue64, ← toNat_lshOp, ← toNat_rshOp, ← toNat_arshOp]
  refine ⟨fun n hn => ?_, fun hpolicy hS => ?_⟩
  · have effect := stepEffect_shift64 hd hread hsrc (shiftCount_eq_some hn)
    exact ⟨effect lshOp, effect rshOp, effect arshOp⟩
  · have refused := shift64_refused hread hsrc (by rw [hpolicy, shiftCount_of_le hS])
    exact ⟨refused lshOp, refused rshOp, refused arshOp⟩

/-! ### 32-bit arithmetic -/

theorem operand32_of_readable (h : srcReadable s o) (k : BitVec 32 → Out) : operand32 o s k = k (operandValue32 o s) := by
  cases o with
  | reg r => exact readReg_of_readable (k := fun v => k (v.setWidth 32)) h
  | imm m => rfl

/-- Writing a 32-bit result zero extended writes its number (`41_alu32.md` R120). -/
theorem stepEffect_finish32 (hd : d ≠ .r10) (s : State) (v : BitVec 32) :
    StepEffect (.next (s.finish d (v.setWidth 64))) s (s.pc + 1) (some (d, v.toNat)) none := by
  have hv : (v.setWidth 64).toNat = v.toNat := BitVec.toNat_setWidth_of_le (by decide)
  rw [← hv]
  exact stepEffect_finish hd s _

theorem exec_alu32 (hd : d ≠ .r10) (o : Operand) (s : State) :
    exec (aluForm .add32K .add32X d o) s = alu32 (· + ·) d o s ∧ exec (aluForm .sub32K .sub32X d o) s = alu32 (· - ·) d o s ∧
    exec (aluForm .mul32K .mul32X d o) s = alu32 (· * ·) d o s ∧ exec (aluForm .div32K .div32X d o) s = alu32 divOp d o s ∧
    exec (aluForm .mod32K .mod32X d o) s = alu32 modOp d o s ∧ exec (aluForm .or32K .or32X d o) s = alu32 (· ||| ·) d o s ∧
    exec (aluForm .and32K .and32X d o) s = alu32 (· &&& ·) d o s ∧ exec (aluForm .xor32K .xor32X d o) s = alu32 (· ^^^ ·) d o s := by
  have hw : d.writable = true := writable_of_ne_r10 hd
  cases o <;> exact ⟨legal_of_wellFormed hw, legal_of_wellFormed hw, legal_of_wellFormed hw, legal_of_wellFormed hw,
    legal_of_wellFormed hw, legal_of_wellFormed hw, legal_of_wellFormed hw, legal_of_wellFormed hw⟩

/-- The effect of an instruction that is `alu32` of a function, given what the function is on numbers. -/
theorem stepEffect_of_alu32 (hd : d ≠ .r10) (hread : s.readable d = true) (hsrc : srcReadable s o) {i : Instr}
    {f : BitVec 32 → BitVec 32 → BitVec 32} {g : Nat → Nat → Nat} (hexec : exec i s = alu32 f d o s)
    (hf : ∀ a b : BitVec 32, (f a b).toNat = g a.toNat b.toNat) :
    StepEffect (exec i s) s (s.pc + 1) (some (d, g ((s.value 0 d).toNat % 2 ^ 32) (srcNat32 s o))) none := by
  rw [hexec, ← toNat_operandValue32, ← BitVec.toNat_setWidth, ← hf, alu32, readReg_of_readable hread, operand32_of_readable hsrc]
  exact stepEffect_finish32 hd s _

/-- Settles O33: each instruction is `alu32` of the bit vector operation whose number the statement gives. -/
theorem alu32Results : Obligations.Alu32Results := by
  intro s d o hd hread hsrc
  obtain ⟨hadd, hsub, hmul, hdiv, hmod, hor, hand, hxor⟩ := exec_alu32 hd o s
  have hmodOp : ∀ a b : BitVec 32, (modOp a b).toNat = if b.toNat ≠ 0 then a.toNat % b.toNat else a.toNat := by
    intro a b
    rw [toNat_modOp, Nat.mod_eq_sub_div_mul]
  exact ⟨stepEffect_of_alu32 (g := fun a b => (a + b) % 2 ^ 32) hd hread hsrc hadd BitVec.toNat_add,
    stepEffect_of_alu32 (g := fun a b => (a + 2 ^ 32 - b) % 2 ^ 32) hd hread hsrc hsub toNat_sub_eq,
    stepEffect_of_alu32 (g := fun a b => a * b % 2 ^ 32) hd hread hsrc hmul BitVec.toNat_mul,
    stepEffect_of_alu32 (g := fun a b => if b ≠ 0 then a / b else 0) hd hread hsrc hdiv toNat_divOp,
    stepEffect_of_alu32 (g := fun a b => if b ≠ 0 then a % b else a) hd hread hsrc hmod hmodOp,
    stepEffect_of_alu32 hd hread hsrc hor BitVec.toNat_or,
    stepEffect_of_alu32 hd hread hsrc hand BitVec.toNat_and, stepEffect_of_alu32 hd hread hsrc hxor BitVec.toNat_xor⟩

theorem stepEffect_shift32 (hd : d ≠ .r10) (hread : s.readable d = true) (hsrc : srcReadable s o) {n : Nat}
    (hcount : shiftCount s.cfg.shiftPolicy (operandValue32 o s) = some n) (f : BitVec 32 → Nat → BitVec 32) :
    StepEffect (shift32 f d o s) s (s.pc + 1) (some (d, (f ((s.value 0 d).setWidth 32) n).toNat)) none := by
  rw [shift32, readReg_of_readable hread, operand32_of_readable hsrc, withCount, hcount]
  exact stepEffect_finish32 hd s _

theorem shift32_refused (hread : s.readable d = true) (hsrc : srcReadable s o)
    (hcount : shiftCount s.cfg.shiftPolicy (operandValue32 o s) = none) (f : BitVec 32 → Nat → BitVec 32) :
    shift32 f d o s = .refused .shiftCount := by
  rw [shift32, readReg_of_readable hread, operand32_of_readable hsrc, withCount, hcount]
  rfl

theorem exec_shift32 (hd : d ≠ .r10) (o : Operand) (s : State) :
    exec (aluForm .lsh32K .lsh32X d o) s = shift32 lshOp d o s ∧ exec (aluForm .rsh32K .rsh32X d o) s = shift32 rshOp d o s ∧
    exec (aluForm .arsh32K .arsh32X d o) s = shift32 arshOp d o s := by
  have hw : d.writable = true := writable_of_ne_r10 hd
  cases o <;> exact ⟨legal_of_wellFormed hw, legal_of_wellFormed hw, legal_of_wellFormed hw⟩

/-- Settles O34: each instruction is `shift32` of its operation, with the count that the policy gives. -/
theorem shift32Results : Obligations.Shift32Results := by
  intro s d o hd hread hsrc
  obtain ⟨hlsh, hrsh, harsh⟩ := exec_shift32 hd o s
  simp only [hlsh, hrsh, harsh, ← toNat_operandValue32, ← BitVec.toNat_setWidth, ← toNat_lshOp, ← toNat_rshOp, ← toNat_arshOp]
  refine ⟨fun n hn => ?_, fun hpolicy hS => ?_⟩
  · have effect := stepEffect_shift32 hd hread hsrc (shiftCount_eq_some hn)
    exact ⟨effect lshOp, effect rshOp, effect arshOp⟩
  · have refused := shift32_refused hread hsrc (by rw [hpolicy, shiftCount_of_le hS])
    exact ⟨refused lshOp, refused rshOp, refused arshOp⟩

/-! ### `BPF_NEG` -/

/-- Under `NEG_READING = source` both forms are well formed. -/
theorem exec_neg_of_source (hd : d ≠ .r10) (hneg : s.cfg.negReading = .source) (o : Operand) :
    exec (aluForm .neg64K .neg64X d o) s = neg64 d o s ∧ exec (aluForm .neg32K .neg32X d o) s = neg32 d o s := by
  have hw : d.writable = true := writable_of_ne_r10 hd
  cases o <;> exact ⟨legal_of_wellFormed (by simp [Instr.wellFormed, hneg, hw]),
    legal_of_wellFormed (by simp [Instr.wellFormed, hneg, hw])⟩

/-- Under `NEG_READING = negate_dst` the immediate form with a zero immediate is well formed. -/
theorem exec_neg_of_negateDst (hd : d ≠ .r10) (hneg : s.cfg.negReading = .negateDst) (hread : s.readable d = true) :
    exec (.neg64K d 0#32) s = .next (s.finish d (0#64 - s.value 0 d)) ∧
    exec (.neg32K d 0#32) s = .next (s.finish d ((0#32 - (s.value 0 d).setWidth 32).setWidth 64)) := by
  have hw : d.writable = true := writable_of_ne_r10 hd
  constructor
  · refine (legal_of_wellFormed (by simp [Instr.wellFormed, hw])).trans ?_
    simp only [neg64, hneg, readReg_of_readable hread]
  · refine (legal_of_wellFormed (by simp [Instr.wellFormed, hw])).trans ?_
    simp only [neg32, hneg, readReg_of_readable hread]

/-- Settles O32: the reading chooses the operand, and under `negate_dst` no register form is well formed. -/
theorem neg64Results : Obligations.Neg64Results := by
  intro s d hd
  refine ⟨fun o hneg hsrc => ?_, fun hneg hread => ⟨?_, fun r => ?_⟩⟩
  · have heffect := stepEffect_finish hd s (~~~(operandValue64 o s))
    rw [BitVec.toNat_not, toNat_operandValue64] at heffect
    rw [(exec_neg_of_source hd hneg o).1]
    simpa only [neg64, hneg, operand64_of_readable hsrc] using heffect
  · have heffect := stepEffect_finish hd s (0#64 - s.value 0 d)
    rwa [toNat_sub_eq, BitVec.toNat_ofNat, Nat.zero_mod, Nat.zero_add, ← (exec_neg_of_negateDst hd hneg hread).1] at heffect
  · exact exec_of_not_wellFormed (by simp [Instr.wellFormed, hneg])

/-- Settles O35: as at 64 bits, on the low halves. -/
theorem neg32Results : Obligations.Neg32Results := by
  intro s d hd
  refine ⟨fun o hneg hsrc => ?_, fun hneg hread => ⟨?_, fun r => ?_⟩⟩
  · have heffect := stepEffect_finish32 hd s (~~~(operandValue32 o s))
    rw [BitVec.toNat_not, toNat_operandValue32] at heffect
    rw [(exec_neg_of_source hd hneg o).2]
    simpa only [neg32, hneg, operand32_of_readable hsrc] using heffect
  · have heffect := stepEffect_finish32 hd s (0#32 - (s.value 0 d).setWidth 32)
    rwa [toNat_sub_eq, BitVec.toNat_ofNat, Nat.zero_mod, Nat.zero_add, BitVec.toNat_setWidth,
      ← (exec_neg_of_negateDst hd hneg hread).2] at heffect
  · exact exec_of_not_wellFormed (by simp [Instr.wellFormed, hneg])

/-! ### Moves -/

theorem exec_mov (hd : d ≠ .r10) (o : Operand) (s : State) :
    exec (aluForm .mov64K .mov64X d o) s = mov64 d o s ∧ exec (aluForm .mov32K .mov32X d o) s = mov32 d o s := by
  have hw : d.writable = true := writable_of_ne_r10 hd
  cases o <;> exact ⟨legal_of_wellFormed hw, legal_of_wellFormed hw⟩

/-- Settles O36: a move writes its operand, and the wide load its immediate two slots on; the destination is not read. -/
theorem moveResults : Obligations.MoveResults := by
  intro s d hd
  refine ⟨fun o hsrc => ⟨?_, ?_⟩, fun v => ?_⟩
  · rw [(exec_mov hd o s).1, mov64, operand64_of_readable hsrc, ← toNat_operandValue64]
    exact stepEffect_finish hd s _
  · rw [(exec_mov hd o s).2, mov32, operand32_of_readable hsrc, ← toNat_operandValue32]
    exact stepEffect_finish32 hd s _
  · have hexec : exec (.ldImm64 d v) s = .next ((s.setReg d v).advance 2) := legal_of_wellFormed (writable_of_ne_r10 hd)
    rw [hexec]
    exact ⟨_, rfl, rfl, writesOnly_of_set hd rfl rfl, rfl, rfl, rfl, rfl, rfl⟩

end Sys2Proof.Machine
end

section
/-! Proofs on control: the jumps, `call` and `exit`. -/

namespace Sys2Proof.Machine

variable {s : State} {d : Reg} {o : Operand} {off : BitVec 16}

/-! ### Jumps -/

/-- A jump, taken or not, changes `pc` alone (`43_jump.md` R151). -/
theorem stepEffect_branch (s : State) (taken : Bool) (off : BitVec 16) :
    StepEffect (.next (s.branch taken off)) s (if taken then s.pc + 1 + off.toInt else s.pc + 1) none none :=
  ⟨_, rfl, rfl, ⟨rfl, rfl⟩, rfl, rfl, rfl, rfl, rfl⟩

/-- Settles O39: `ja` is a jump that is taken. -/
theorem unconditionalJump : Obligations.UnconditionalJump :=
  fun s off => stepEffect_branch s true off

/-- The eleven conditions on the numbers of the operands, signed conditions on their readings in two's complement. -/
def condOfNats (w : Nat) (c : Cond) (D S : Nat) : Prop :=
  match c with
  | .eq => D = S
  | .gt => S < D
  | .ge => S ≤ D
  | .set => D &&& S ≠ 0
  | .ne => D ≠ S
  | .sgt => signedNat w S < signedNat w D
  | .sge => signedNat w S ≤ signedNat w D
  | .lt => D < S
  | .le => D ≤ S
  | .slt => signedNat w D < signedNat w S
  | .sle => signedNat w D ≤ signedNat w S

/-- A condition holds of bit vectors as it holds of their numbers. -/
theorem condHolds_iff {w : Nat} (c : Cond) (a b : BitVec (w + 1)) :
    condHolds c a b = true ↔ condOfNats (w + 1) c a.toNat b.toNat := by
  cases c with
  | eq => exact beq_iff_eq.trans BitVec.toNat_inj.symm
  | gt => exact BitVec.ult_iff_toNat_lt
  | ge => exact BitVec.ule_iff_toNat_le
  | set =>
    have hzero : a &&& b = 0#(w + 1) ↔ a.toNat &&& b.toNat = 0 := by
      rw [← BitVec.toNat_inj, BitVec.toNat_and, BitVec.toNat_ofNat, Nat.zero_mod]
    exact bne_iff_ne.trans (not_congr hzero)
  | ne => exact bne_iff_ne.trans (not_congr BitVec.toNat_inj.symm)
  | sgt => rw [condOfNats, signedNat_toNat, signedNat_toNat]; exact BitVec.slt_iff_toInt_lt
  | sge => rw [condOfNats, signedNat_toNat, signedNat_toNat]; exact BitVec.sle_iff_toInt_le
  | lt => exact BitVec.ult_iff_toNat_lt
  | le => exact BitVec.ule_iff_toNat_le
  | slt => rw [condOfNats, signedNat_toNat, signedNat_toNat]; exact BitVec.slt_iff_toInt_lt
  | sle => rw [condOfNats, signedNat_toNat, signedNat_toNat]; exact BitVec.sle_iff_toInt_le

/-- An instruction that branches on a condition goes to the target where it holds and to the next slot where it does not. -/
theorem stepEffect_of_branch {i : Instr} {taken : Bool} {p : Prop} (hexec : exec i s = .next (s.branch taken off))
    (hp : taken = true ↔ p) :
    (p → StepEffect (exec i s) s (s.pc + 1 + off.toInt) none none) ∧ (¬ p → StepEffect (exec i s) s (s.pc + 1) none none) := by
  have heffect := stepEffect_branch s taken off
  rw [← hexec] at heffect
  refine ⟨fun h => ?_, fun h => ?_⟩
  · rwa [if_pos (hp.mpr h)] at heffect
  · rwa [if_neg (mt hp.mp h)] at heffect

theorem stepEffect_of_jump64 (hread : s.readable d = true) (hsrc : srcReadable s o) (c : Cond) {i : Instr}
    (hexec : exec i s = jump64 c d o off s) :
    (condOfNats 64 c (s.value 0 d).toNat (srcNat64 s o) → StepEffect (exec i s) s (s.pc + 1 + off.toInt) none none) ∧
    (¬ condOfNats 64 c (s.value 0 d).toNat (srcNat64 s o) → StepEffect (exec i s) s (s.pc + 1) none none) := by
  rw [jump64, readReg_of_readable hread, operand64_of_readable hsrc] at hexec
  refine stepEffect_of_branch hexec ?_
  rw [← toNat_operandValue64]
  exact condHolds_iff c _ _

theorem stepEffect_of_jump32 (hread : s.readable d = true) (hsrc : srcReadable s o) (c : Cond) {i : Instr}
    (hexec : exec i s = jump32 c d o off s) :
    (condOfNats 32 c ((s.value 0 d).toNat % 2 ^ 32) (srcNat32 s o) → StepEffect (exec i s) s (s.pc + 1 + off.toInt) none none) ∧
    (¬ condOfNats 32 c ((s.value 0 d).toNat % 2 ^ 32) (srcNat32 s o) → StepEffect (exec i s) s (s.pc + 1) none none) := by
  rw [jump32, readReg_of_readable hread, operand32_of_readable hsrc] at hexec
  refine stepEffect_of_branch hexec ?_
  rw [← toNat_operandValue32, ← BitVec.toNat_setWidth]
  exact condHolds_iff c _ _

/-- Either form of a conditional jump is the shared operation, given it for the two forms: every jump is well formed. -/
theorem exec_jumpForm {k : Reg → BitVec 32 → BitVec 16 → Instr} {x : Reg → Reg → BitVec 16 → Instr} {jump : Operand → Out}
    (hk : ∀ m, exec (k d m off) s = jump (.imm m)) (hx : ∀ r, exec (x d r off) s = jump (.reg r)) (o : Operand) :
    exec (jumpForm k x d off o) s = jump o := by
  cases o with
  | reg r => exact hx r
  | imm m => exact hk m

/-- Settles O40: each instruction is `jump64` of its condition. -/
theorem conditionalJumps64 : Obligations.ConditionalJumps64 := by
  intro s d o off hread hsrc
  have run (c : Cond) {k : Reg → BitVec 32 → BitVec 16 → Instr} {x : Reg → Reg → BitVec 16 → Instr}
      (hk : ∀ m, exec (k d m off) s = jump64 c d (.imm m) off s)
      (hx : ∀ r, exec (x d r off) s = jump64 c d (.reg r) off s) :=
    stepEffect_of_jump64 hread hsrc c (exec_jumpForm (jump := fun o => jump64 c d o off s) hk hx o)
  exact ⟨run .eq (fun _ => rfl) (fun _ => rfl), run .gt (fun _ => rfl) (fun _ => rfl), run .ge (fun _ => rfl) (fun _ => rfl),
    run .set (fun _ => rfl) (fun _ => rfl), run .ne (fun _ => rfl) (fun _ => rfl), run .sgt (fun _ => rfl) (fun _ => rfl),
    run .sge (fun _ => rfl) (fun _ => rfl), run .lt (fun _ => rfl) (fun _ => rfl), run .le (fun _ => rfl) (fun _ => rfl),
    run .slt (fun _ => rfl) (fun _ => rfl), run .sle (fun _ => rfl) (fun _ => rfl)⟩

/-- Settles O41: each instruction is `jump32` of its condition. -/
theorem conditionalJumps32 : Obligations.ConditionalJumps32 := by
  intro s d o off hread hsrc
  have run (c : Cond) {k : Reg → BitVec 32 → BitVec 16 → Instr} {x : Reg → Reg → BitVec 16 → Instr}
      (hk : ∀ m, exec (k d m off) s = jump32 c d (.imm m) off s)
      (hx : ∀ r, exec (x d r off) s = jump32 c d (.reg r) off s) :=
    stepEffect_of_jump32 hread hsrc c (exec_jumpForm (jump := fun o => jump32 c d o off s) hk hx o)
  exact ⟨run .eq (fun _ => rfl) (fun _ => rfl), run .gt (fun _ => rfl) (fun _ => rfl), run .ge (fun _ => rfl) (fun _ => rfl),
    run .set (fun _ => rfl) (fun _ => rfl), run .ne (fun _ => rfl) (fun _ => rfl), run .sgt (fun _ => rfl) (fun _ => rfl),
    run .sge (fun _ => rfl) (fun _ => rfl), run .lt (fun _ => rfl) (fun _ => rfl), run .le (fun _ => rfl) (fun _ => rfl),
    run .slt (fun _ => rfl) (fun _ => rfl), run .sle (fun _ => rfl) (fun _ => rfl)⟩

/-! ### `call` and `exit` -/

/-- Settles O42: a call of a known function whose arguments can be read goes to `afterCall`. -/
theorem callCompletes : Obligations.CallCompletes := by
  intro s imm f hf hargs o
  have hkept : ∀ r ∈ [Reg.r6, .r7, .r8, .r9, .r10], r ∉ [Reg.r0, .r1, .r2, .r3, .r4, .r5] := by decide
  refine ⟨s.afterCall o, ?_, s.afterCall_pc o, fun r hr => s.afterCall_frame (hkept r hr) o, fun r hr => ?_, ?_,
    fun v k hv => State.afterCall_value hv s k, s.afterCall_mem o, s.afterCall_prog o, s.afterCall_status o, s.afterCall_cfg o,
    s.afterCall_steps o⟩
  · rw [exec_call_of_findFn hf, checkReads_of_readable hargs]
  · have hr0 : r ≠ .r0 := by rintro rfl; revert hr; decide
    rw [State.afterCall_isWritten, if_neg hr0, List.contains_iff_mem.mpr hr]
    rfl
  · rw [State.afterCall_isWritten, if_pos rfl]

/-- Settles O44: `exit` reads R0 and changes the status. -/
theorem exitReportsAllOfR0 : Obligations.ExitReportsAllOfR0 := by
  intro s hread
  refine ⟨s.exited (s.value 0 .r0), ?_, rfl, fun hw => ?_, rfl, rfl, rfl, rfl, rfl, rfl, rfl⟩
  · show legal .exit s _ = _
    rw [readReg_of_readable hread]
    exact legal_of_wellFormed rfl
  · rw [State.exited_status, State.value, if_pos hw]

/-! ### The relation of a called function -/

/-- A function of one alternative that applies has its outcome. -/
theorem callOutcome_singleton {c : Config} {site : CallSite} {f : PlatformFn} {alt : FnOutcome} (hf : f.outcomes = [alt])
    (hguard : evalFn c site alt.guard ≠ 0#64) : callOutcome c site f = evalOutcome c site alt := by
  have honly : admittedOutcomes c site f = [evalOutcome c site alt] := by simp [admittedOutcomes, hf, hguard]
  rw [callOutcome, honly]
  rfl

/-- Settles O58: `pick` takes one of the outcomes there are, which are the alternatives whose guard holds. -/
theorem callOutcomesAreThoseOfTheRelation : Obligations.CallOutcomesAreThoseOfTheRelation := by
  refine ⟨fun c site f => callOutcome_mem, fun c site f o => ?_, fun c site key arity alt hguard => ?_, fun c key a b m n => ?_⟩
  · rw [mem_admittedOutcomes]
    obtain ⟨ret, stores⟩ := o
    simp only [evalOutcome, CallOutcome.mk.injEq, eq_comm]
  · exact callOutcome_singleton rfl hguard
  · exact callOutcome_singleton (alt := { ret := some (.op .add (.arg 0) (.arg 1)) }) rfl (by decide : (1#64 : Word) ≠ 0#64)

/-- The guard that holds of the arguments from the `k`-th on being the given values. -/
def argsGuard (k : Nat) : List Word → FnExpr
  | [] => .const 1#64
  | v :: rest => .op .and (.op .eq (.arg (Fin.ofNat 5 k)) (.const v)) (argsGuard (k + 1) rest)

theorem wordOfBool_and (p q : Bool) : wordOfBool p &&& wordOfBool q = wordOfBool (p && q) := by
  cases p <;> cases q <;> rfl

theorem evalFn_argsGuard {c : Config} {site : CallSite} {vs : List Word} {k : Nat} (hlen : k + vs.length = site.args.length)
    (h5 : site.args.length ≤ 5) : evalFn c site (argsGuard k vs) = wordOfBool (site.args.drop k == vs) := by
  induction vs generalizing k with
  | nil =>
    rw [List.length_nil] at hlen
    rw [List.drop_eq_nil_of_le (by omega)]
    rfl
  | cons v rest ih =>
    rw [List.length_cons] at hlen
    have hk : k < site.args.length := by omega
    have hindex : (Fin.ofNat 5 k).val = k := Nat.mod_eq_of_lt (by omega)
    have harg : evalFn c site (.arg (Fin.ofNat 5 k)) = site.args[k] := by
      simp only [evalFn, hindex, List.getElem?_eq_getElem hk, Option.getD_some]
    calc evalFn c site (argsGuard k (v :: rest))
        = wordOfBool (site.args[k] == v) &&& evalFn c site (argsGuard (k + 1) rest) := by
          rw [← harg]; rfl
      _ = wordOfBool (site.args.drop k == v :: rest) := by
          rw [ih (by omega), wordOfBool_and, List.drop_eq_getElem_cons hk]
          rfl

/-- The alternative that gives an outcome for the given arguments alone. -/
def alternativeOf (p : List Word × CallOutcome) : FnOutcome where
  guard := argsGuard 0 p.1
  ret := p.2.ret.map .const
  stores := p.2.stores.map fun w => ⟨.const w.1, w.2.1, .const w.2.2⟩

theorem evalOutcome_alternativeOf (c : Config) (site : CallSite) (p : List Word × CallOutcome) :
    evalOutcome c site (alternativeOf p) = p.2 := by
  obtain ⟨args, ret, stores⟩ := p
  simp [evalOutcome, alternativeOf, Function.comp_def, evalFn]

theorem guard_alternativeOf {c : Config} {site : CallSite} {p : List Word × CallOutcome} (hlen : p.1.length = site.args.length)
    (h5 : site.args.length ≤ 5) : evalFn c site (alternativeOf p).guard ≠ 0#64 ↔ site.args = p.1 := by
  have hguard := evalFn_argsGuard (c := c) (k := 0) (by rw [hlen, Nat.zero_add]) h5
  rw [alternativeOf, hguard, List.drop_zero]
  cases hargs : site.args == p.1 with
  | true => exact iff_of_true (by decide) (beq_iff_eq.mp hargs)
  | false => exact iff_of_false (by decide) (beq_eq_false_iff_ne.mp hargs)

/-- Settles O59: one alternative for each pair of the relation, guarded by its arguments. -/
theorem everyFiniteRelationIsAFunction : Obligations.EveryFiniteRelationIsAFunction := by
  intro arity relation
  refine ⟨(relation.filter fun p => p.1.length == arity.val).map alternativeOf, fun c site key o hlen => ?_⟩
  have h5 : site.args.length ≤ 5 := by omega
  rw [mem_admittedOutcomes]
  constructor
  · rintro ⟨alt, halt, hguard, rfl⟩
    obtain ⟨p, hp, rfl⟩ := List.mem_map.mp halt
    obtain ⟨hmem, hp⟩ := List.mem_filter.mp hp
    have hargs := (guard_alternativeOf (by rw [beq_iff_eq.mp hp, hlen]) h5).mp hguard
    rw [evalOutcome_alternativeOf, hargs]
    exact hmem
  · intro hmem
    refine ⟨_, List.mem_map_of_mem (List.mem_filter.mpr ⟨hmem, beq_iff_eq.mpr hlen⟩), ?_, evalOutcome_alternativeOf c site _⟩
    exact (guard_alternativeOf rfl h5).mpr rfl

end Sys2Proof.Machine
end

section
/-! Proofs on bytes: the number that bytes make, the bytes of a number, and reading after writing. -/

namespace Sys2Proof.Machine

/-! ### The number that bytes make -/

@[simp] theorem bytesNat_nil : bytesNat .little [] = 0 := rfl

@[simp] theorem bytesNat_cons (b : Byte) (bs : List Byte) : bytesNat .little (b :: bs) = b.toNat + 256 * bytesNat .little bs := rfl

/-- Most significant byte first is least significant first, reversed (`20_memory.md` R41). -/
theorem bytesNat_hostOrder (e : Endian) (bs : List Byte) : bytesNat .little (hostOrder e bs) = bytesNat e bs := by
  cases e with
  | little => rfl
  | big =>
    have hswap : (fun (b : Byte) acc => b.toNat + 256 * acc) = fun b acc => 256 * acc + b.toNat := by
      funext b acc
      exact Nat.add_comm _ _
    simp only [bytesNat, hostOrder, List.foldr_reverse, hswap]

theorem bytesNat_lt (bs : List Byte) : bytesNat .little bs < 256 ^ bs.length := by
  induction bs with
  | nil => exact Nat.one_pos
  | cons b bs ih =>
    have hb := b.isLt
    rw [bytesNat_cons, List.length_cons, Nat.pow_succ]
    omega

theorem bytesNat_drop (bs : List Byte) (k : Nat) : bytesNat .little (bs.drop k) = bytesNat .little bs / 256 ^ k := by
  induction k generalizing bs with
  | zero => simp
  | succ k ih =>
    cases bs with
    | nil => simp
    | cons b bs =>
      have hb := b.isLt
      have htail : (b.toNat + 256 * bytesNat .little bs) / 256 = bytesNat .little bs := by omega
      rw [List.drop_succ_cons, ih, bytesNat_cons, Nat.pow_succ', ← Nat.div_div_eq_div_mul, htail]

theorem bytesNat_take (bs : List Byte) (k : Nat) : bytesNat .little (bs.take k) = bytesNat .little bs % 256 ^ k := by
  induction k generalizing bs with
  | zero => simp [Nat.mod_one]
  | succ k ih =>
    cases bs with
    | nil => simp
    | cons b bs =>
      have hb := b.isLt
      have hhead : (b.toNat + 256 * bytesNat .little bs) % 256 = b.toNat := by omega
      have htail : (b.toNat + 256 * bytesNat .little bs) / 256 = bytesNat .little bs := by omega
      rw [List.take_succ_cons, bytesNat_cons, ih, bytesNat_cons, Nat.pow_succ', Nat.mod_mul, hhead, htail]

/-- Bytes of one length that make the same number are the same. -/
theorem bytesNat_inj {bs cs : List Byte} (hlen : bs.length = cs.length) (h : bytesNat .little bs = bytesNat .little cs) : bs = cs := by
  induction bs generalizing cs with
  | nil => exact (List.length_eq_zero_iff.mp hlen.symm).symm
  | cons b bs ih =>
    cases cs with
    | nil => cases hlen
    | cons c cs =>
      rw [bytesNat_cons, bytesNat_cons] at h
      have hb := b.isLt
      have hc := c.isLt
      rw [BitVec.eq_of_toNat_eq (x := b) (y := c) (by omega), ih (Nat.succ.inj hlen) (by omega)]

/-- Up to eight bytes, least significant first, make a word of their number. -/
theorem toNat_ofBytesLE {bs : List Byte} (h : bs.length ≤ 8) : (ofBytesLE bs).toNat = bytesNat .little bs := by
  induction bs with
  | nil => rfl
  | cons b bs ih =>
    rw [List.length_cons] at h
    have hb : b.toNat < 2 ^ 8 := b.isLt
    have hlt : bytesNat .little bs < 256 ^ 7 :=
      lt_of_lt_of_le (bytesNat_lt bs) (Nat.pow_le_pow_right (by decide) (by omega))
    have hshift : bytesNat .little bs <<< 8 < 2 ^ 64 := by rw [Nat.shiftLeft_eq]; omega
    rw [ofBytesLE, BitVec.toNat_or, BitVec.toNat_shiftLeft, BitVec.toNat_setWidth_of_le (by decide), ih (by omega),
      Nat.mod_eq_of_lt hshift, ← Nat.shiftLeft_add_eq_or_of_lt hb, Nat.shiftLeft_eq, bytesNat_cons]
    omega

/-! ### The bytes of a word -/

/-- Byte `k` of a word, from the least significant one. -/
theorem toNat_extract_byte (v : Word) (k : Nat) : (v.extractLsb' (8 * k) 8).toNat = v.toNat / 256 ^ k % 256 := by
  rw [BitVec.extractLsb'_toNat, Nat.shiftRight_eq_div_pow, Nat.pow_mul]

theorem toNat_ushiftRight_byte (v : Word) : (v >>> 8).toNat = v.toNat / 256 := by
  rw [BitVec.toNat_ushiftRight, Nat.shiftRight_eq_div_pow]

theorem bytesLE_eq_map (n : Nat) (v : Word) : bytesLE n v = (List.range n).map fun k => v.extractLsb' (8 * k) 8 := by
  induction n generalizing v with
  | zero => rfl
  | succ n ih =>
    have hnext : ∀ k, (v >>> 8).extractLsb' (8 * k) 8 = v.extractLsb' (8 * (k + 1)) 8 := by
      intro k
      apply BitVec.eq_of_toNat_eq
      rw [toNat_extract_byte, toNat_extract_byte, toNat_ushiftRight_byte, Nat.div_div_eq_div_mul, Nat.pow_succ']
    rw [bytesLE, ih, List.range_succ_eq_map, List.map_cons, List.map_map]
    simp only [hnext]
    rfl

theorem bytesNat_bytesLE (n : Nat) (v : Word) : bytesNat .little (bytesLE n v) = v.toNat % 256 ^ n := by
  induction n generalizing v with
  | zero => simp [bytesLE, Nat.mod_one]
  | succ n ih =>
    have hlow : (v.extractLsb' 0 8).toNat = v.toNat % 256 := by simp
    rw [bytesLE, bytesNat_cons, ih, hlow, toNat_ushiftRight_byte, Nat.pow_succ', Nat.mod_mul]

theorem toNat_ofBytesLE_bytesLE {n : Nat} (hn : n ≤ 8) (v : Word) : (ofBytesLE (bytesLE n v)).toNat = v.toNat % 256 ^ n := by
  rw [toNat_ofBytesLE (by rwa [length_bytesLE]), bytesNat_bytesLE]

/-- The bytes of a word made of bytes are those bytes. -/
theorem bytesLE_ofBytesLE {bs : List Byte} (h : bs.length ≤ 8) : bytesLE bs.length (ofBytesLE bs) = bs := by
  refine bytesNat_inj (length_bytesLE _ _) ?_
  rw [bytesNat_bytesLE, toNat_ofBytesLE h, Nat.mod_eq_of_lt (bytesNat_lt bs)]

theorem sizeBytes_le (z : Size) : sizeBytes z ≤ 8 := by cases z <;> decide

theorem toNat_lowBits (z : Size) (v : Word) : (lowBits z v).toNat = v.toNat % 256 ^ sizeBytes z := by
  have hv := v.isLt
  cases z with
  | dw => exact (Nat.mod_eq_of_lt hv).symm
  | _ => rw [lowBits, BitVec.toNat_setWidth_of_le (by decide), BitVec.toNat_setWidth]; rfl

theorem ofBytesLE_bytesLE (z : Size) (v : Word) : ofBytesLE (bytesLE (sizeBytes z) v) = lowBits z v := by
  apply BitVec.eq_of_toNat_eq
  rw [toNat_ofBytesLE_bytesLE (sizeBytes_le z), toNat_lowBits]

/-! ### Byte swaps -/

/-- The low bytes of a byte reversal are those of the value, reversed. -/
theorem bytesLE_swapBytes {n : Nat} (hn : n ≤ 8) (v : Word) : bytesLE n (swapBytes n v) = (bytesLE n v).reverse := by
  have hlen : (bytesLE n v).reverse.length = n := by rw [List.length_reverse, length_bytesLE]
  have hbytes := bytesLE_ofBytesLE (bs := (bytesLE n v).reverse) (by rwa [hlen])
  rwa [hlen] at hbytes

theorem swapBytes_swapBytes (z : Size) (v : Word) : swapBytes (sizeBytes z) (swapBytes (sizeBytes z) v) = lowBits z v := by
  rw [swapBytes, bytesLE_swapBytes (sizeBytes_le z), List.reverse_reverse, ofBytesLE_bytesLE]

/-- Settles O38: reversing a list of bytes twice gives it back. -/
theorem swappingTwiceRestores : Obligations.SwappingTwiceRestores :=
  ⟨swapBytes_swapBytes, swapBytes_swapBytes .dw⟩

/-- The number of bytes given most significant first, as a sum: byte `k` goes to place `n - 1 - k`. -/
theorem bytesNat_big_range (f : Nat → Byte) (n : Nat) :
    bytesNat .big ((List.range n).map f) = ((List.range n).map fun k => (f k).toNat * 256 ^ (n - 1 - k)).sum := by
  induction n with
  | zero => rfl
  | succ n ih =>
    have hshift : ((List.range n).map fun k => (f k).toNat * 256 ^ (n - k)) =
        (List.range n).map fun k => 256 * ((f k).toNat * 256 ^ (n - 1 - k)) := by
      refine List.map_congr_left fun k hk => ?_
      have hk' : n - k = n - 1 - k + 1 := by have := List.mem_range.mp hk; omega
      rw [hk', Nat.pow_succ]
      ring
    simp only [bytesNat] at ih
    simp only [bytesNat, List.range_succ, List.map_append, List.foldl_append, ih, List.map_cons, List.map_nil, List.foldl_cons,
      List.foldl_nil, List.sum_append, List.sum_cons, List.sum_nil, Nat.add_sub_cancel, hshift, List.sum_map_mul_left,
      Nat.sub_self, Nat.pow_zero, Nat.mul_one, Nat.add_zero]

theorem toNat_swapBytes {n : Nat} (hn : n ≤ 8) (v : Word) :
    (swapBytes n v).toNat = ((List.range n).map fun k => v.toNat / 256 ^ k % 256 * 256 ^ (n - 1 - k)).sum := by
  have hbig : bytesNat .little (bytesLE n v).reverse = bytesNat .big (bytesLE n v) := bytesNat_hostOrder .big _
  rw [swapBytes, toNat_ofBytesLE (by rwa [List.length_reverse, length_bytesLE]), hbig, bytesLE_eq_map, bytesNat_big_range]
  simp only [toNat_extract_byte]

/-- The six byte swaps are well formed where the destination may be written. -/
theorem exec_byteSwap {d : Reg} (hd : d ≠ .r10) (s : State) :
    exec (.le16 d) s = byteSwap .little .h d s ∧ exec (.le32 d) s = byteSwap .little .w d s ∧
    exec (.le64 d) s = byteSwap .little .dw d s ∧ exec (.be16 d) s = byteSwap .big .h d s ∧
    exec (.be32 d) s = byteSwap .big .w d s ∧ exec (.be64 d) s = byteSwap .big .dw d s := by
  have hw : d.writable = true := writable_of_ne_r10 hd
  exact ⟨legal_of_wellFormed hw, legal_of_wellFormed hw, legal_of_wellFormed hw, legal_of_wellFormed hw, legal_of_wellFormed hw,
    legal_of_wellFormed hw⟩

/-- A conversion to the order of the host keeps the low bytes (`42_byteswap.md` R140). -/
theorem stepEffect_byteSwap_same {d : Reg} {s : State} {target : Endian} (hd : d ≠ .r10) (hread : s.readable d = true)
    (hhost : s.cfg.hostEndian = target) (z : Size) :
    StepEffect (byteSwap target z d s) s (s.pc + 1) (some (d, (s.value 0 d).toNat % 256 ^ sizeBytes z)) none := by
  rw [byteSwap, readReg_of_readable hread, convertBytes, if_pos hhost, ← toNat_lowBits]
  exact stepEffect_finish hd s _

/-- A conversion to the other order reverses them. -/
theorem stepEffect_byteSwap_other {d : Reg} {s : State} {target : Endian} (hd : d ≠ .r10) (hread : s.readable d = true)
    (hhost : s.cfg.hostEndian ≠ target) (z : Size) :
    StepEffect (byteSwap target z d s) s (s.pc + 1) (some (d, ((List.range (sizeBytes z)).map fun k =>
      (s.value 0 d).toNat / 256 ^ k % 256 * 256 ^ (sizeBytes z - 1 - k)).sum)) none := by
  rw [byteSwap, readReg_of_readable hread, convertBytes, if_neg hhost, ← toNat_swapBytes (sizeBytes_le z)]
  exact stepEffect_finish hd s _

/-- Settles O37: on each host one target order is its own and the other is not. -/
theorem byteSwapResults : Obligations.ByteSwapResults := by
  intro s d hd hread
  obtain ⟨hle16, hle32, hle64, hbe16, hbe32, hbe64⟩ := exec_byteSwap hd s
  have hall : (s.value 0 d).toNat % 256 ^ sizeBytes .dw = (s.value 0 d).toNat := Nat.mod_eq_of_lt (s.value 0 d).isLt
  simp only [hle16, hle32, hle64, hbe16, hbe32, hbe64]
  refine ⟨fun hhost => ?_, fun hhost => ?_⟩
  · have same := stepEffect_byteSwap_same hd hread hhost
    have other := stepEffect_byteSwap_other (target := .big) hd hread (by rw [hhost]; decide)
    exact ⟨same .h, same .w, by simpa only [hall] using same .dw, other .h, other .w, other .dw⟩
  · have same := stepEffect_byteSwap_same hd hread hhost
    have other := stepEffect_byteSwap_other (target := .little) hd hread (by rw [hhost]; decide)
    exact ⟨other .h, other .w, other .dw, same .h, same .w, by simpa only [hall] using same .dw⟩

/-! ### Reading after writing -/

theorem hostOrder_hostOrder (e : Endian) (bs : List Byte) : hostOrder e (hostOrder e bs) = bs := by
  cases e with
  | little => rfl
  | big => exact List.reverse_reverse bs

/-- Reading some of the bytes just written gives the first of them. -/
theorem memBytes_memSetAll (bs : List Byte) (m : List Host.Cell) (a : Nat) {k : Nat} (hk : k ≤ bs.length) :
    memBytes (memSetAll m a bs) a k = bs.take k := by
  induction bs generalizing m a k with
  | nil => obtain rfl : k = 0 := Nat.le_zero.mp hk; rfl
  | cons b bs ih =>
    cases k with
    | zero => rfl
    | succ k =>
      rw [List.length_cons] at hk
      have hfirst : memByte (memSetAll m a (b :: bs)) a = b := by
        rw [memSetAll, memByte_memSetAll_outside _ _ _ (by omega), memByte_memSet_self]
      rw [memBytes, hfirst, List.take_succ_cons, memSetAll, ih _ _ (by omega)]

theorem memBytes_memWrite (e : Endian) (m : List Host.Cell) (a : Nat) {n k : Nat} (v : Word) (hk : k ≤ n) :
    memBytes (memWrite e m a n v) a k = (hostOrder e (bytesLE n v)).take k :=
  memBytes_memSetAll _ _ _ (by rwa [length_hostOrder, length_bytesLE])

/-- Settles O54: the bytes read are those written, put into order twice. -/
theorem storeThenLoadReturnsLowBits : Obligations.StoreThenLoadReturnsLowBits := by
  intro e m a z v
  have hlen : (hostOrder e (bytesLE (sizeBytes z) v)).length = sizeBytes z := by rw [length_hostOrder, length_bytesLE]
  rw [memRead, memBytes_memWrite e m a v le_rfl, List.take_of_length_le hlen.le, hostOrder_hostOrder, ofBytesLE_bytesLE]

theorem toNat_memRead {e : Endian} {m : List Host.Cell} {a n : Nat} (hn : n ≤ 8) :
    (memRead e m a n).toNat = bytesNat e (memBytes m a n) := by
  rw [memRead, toNat_ofBytesLE (by rwa [length_hostOrder, length_memBytes]), bytesNat_hostOrder]

/-- Settles O55: the first bytes of a write are its low ones in little order, and its high ones in big order. -/
theorem narrowReadAfterWideWrite : Obligations.NarrowReadAfterWideWrite := by
  intro m a n k v hk hn
  rw [toNat_memRead (hk.trans hn), toNat_memRead (hk.trans hn), memBytes_memWrite _ _ _ _ hk, memBytes_memWrite _ _ _ _ hk]
  constructor
  · rw [hostOrder, bytesNat_take, bytesNat_bytesLE, Nat.mod_mod_of_dvd _ (Nat.pow_dvd_pow 256 hk)]
  · rw [hostOrder, List.take_reverse, length_bytesLE, ← bytesNat_hostOrder, hostOrder, List.reverse_reverse, bytesNat_drop,
      bytesNat_bytesLE]

end Sys2Proof.Machine
end

section
/-! Proofs on data accesses: alignment, admission and address; then the loads, the stores and the atomic operations. -/

namespace Sys2Proof.Machine

/-! ### Alignment, admission and address -/

theorem mod_beq_zero_iff (a n : Nat) : (a % n == 0) = true ↔ n ∣ a :=
  beq_iff_eq.trans Nat.dvd_iff_mod_eq_zero.symm

theorem aligned_of_any {c : Config} {kind : AccessKind} (hpolicy : c.alignPolicy = .any) (hkind : kind ≠ .atomic) (a n : Nat) :
    aligned c kind a n = true := by
  cases kind with
  | atomic => exact absurd rfl hkind
  | _ => simp only [aligned, hpolicy]

theorem aligned_of_not_any {c : Config} {kind : AccessKind} (h : ¬ (c.alignPolicy = .any ∧ kind ≠ .atomic)) (a n : Nat) :
    aligned c kind a n = (a % n == 0) := by
  cases hpolicy : c.alignPolicy with
  | natural => simp only [aligned, hpolicy]
  | any =>
    obtain rfl : kind = .atomic := by_contra fun hkind => h ⟨hpolicy, hkind⟩
    rfl

theorem aligned_iff {c : Config} {kind : AccessKind} {a n : Nat} :
    aligned c kind a n = true ↔ (c.alignPolicy = .any ∧ kind ≠ .atomic) ∨ n ∣ a := by
  by_cases h : c.alignPolicy = .any ∧ kind ≠ .atomic
  · exact iff_of_true (aligned_of_any h.1 h.2 a n) (.inl h)
  · rw [aligned_of_not_any h, mod_beq_zero_iff, or_iff_right h]

/-- Settles O51: the policy frees reads and writes alone, and 1 divides every address. -/
theorem alignmentRule : Obligations.AlignmentRule :=
  ⟨fun _ _ _ _ => aligned_iff, fun _ _ a => aligned_iff.mpr (.inr (one_dvd a))⟩

theorem inRange_iff {base size a n : Nat} : inRange base size a n = true ↔ base ≤ a ∧ a + n ≤ base + size := by
  simp [inRange]

/-- The stack as two bounds, without the cut at address 0 (`20_memory.md` R45). -/
theorem inStack_iff {c : Config} {a n : Nat} :
    inStack c a n = true ↔ c.fpInit.toNat ≤ a + c.stackSize ∧ a + n ≤ c.fpInit.toNat := by
  rw [inStack, inRange_iff]
  omega

/-- Settles O52: the three conditions of `admits`. -/
theorem admissionRule : Obligations.AdmissionRule := by
  intro c kind a n
  simp only [admits, regionAdmits, Bool.and_eq_true, Bool.or_eq_true, decide_eq_true_eq, List.any_eq_true, inStack_iff, inRange_iff,
    List.contains_iff_mem, and_assoc]

/-- The permission of a region for the accesses of `n` bytes at `a` that a predicate holds of. -/
def permitsOf (P : AccessKind → Nat → Nat → Bool) (a n : Nat) : List (AccessKind × Nat) :=
  ([.read, .write, .atomic].filter fun kind => P kind a n).map fun kind => (kind, n)

/-- One region for each address below `bound` and each size, as large as the access there. -/
def regionsOf (bound : Nat) (P : AccessKind → Nat → Nat → Bool) : List Region :=
  (List.range bound).flatMap fun a => [1, 2, 4, 8].map fun n => { base := a, size := n, permits := permitsOf P a n }

theorem mem_permitsOf_iff {P : AccessKind → Nat → Nat → Bool} {kind : AccessKind} {a n m : Nat} :
    (kind, m) ∈ permitsOf P a n ↔ m = n ∧ P kind a n = true := by
  have hkind : kind ∈ ([.read, .write, .atomic] : List AccessKind) := by cases kind <;> decide
  simp only [permitsOf, List.mem_map, List.mem_filter, Prod.mk.injEq]
  constructor
  · rintro ⟨_, ⟨-, hP⟩, rfl, rfl⟩
    exact ⟨rfl, hP⟩
  · rintro ⟨rfl, hP⟩
    exact ⟨kind, ⟨hkind, hP⟩, rfl, rfl⟩

/-- A region as large as one access lets through that access alone. -/
theorem exists_region_iff {P : AccessKind → Nat → Nat → Bool} {bound : Nat} {kind : AccessKind} {a n : Nat} (ha : a < bound)
    (hn : n ∈ [1, 2, 4, 8]) :
    (∃ g ∈ regionsOf bound P, g.base ≤ a ∧ a + n ≤ g.base + g.size ∧ (kind, n) ∈ g.permits) ↔ P kind a n = true := by
  constructor
  · rintro ⟨g, hg, hbase, htop, hpermits⟩
    obtain ⟨a', -, hg⟩ := List.mem_flatMap.mp hg
    obtain ⟨n', -, rfl⟩ := List.mem_map.mp hg
    obtain ⟨rfl, hP⟩ := mem_permitsOf_iff.mp hpermits
    obtain rfl : a = a' := by simp only at hbase htop; omega
    exact hP
  · intro hP
    exact ⟨_, List.mem_flatMap.mpr ⟨a, List.mem_range.mpr ha, List.mem_map.mpr ⟨n, hn, rfl⟩⟩, le_rfl, le_rfl,
      mem_permitsOf_iff.mpr ⟨rfl, hP⟩⟩

/-- Settles O57: one region for each access that the predicate holds of. -/
theorem everyAdmissionPredicateIsALaunch : Obligations.EveryAdmissionPredicateIsALaunch := by
  intro P
  -- The bound under a name, so that nothing computes the list.
  obtain ⟨bound, hbound⟩ : ∃ bound, bound = 2 ^ 64 := ⟨_, rfl⟩
  refine ⟨regionsOf bound P, fun c kind a n hn => ?_⟩
  have hpos : 0 < n := by
    simp only [List.mem_cons, List.not_mem_nil, or_false] at hn
    omega
  refine (admissionRule _ kind a n).trans (and_congr_right fun hle => or_congr_right ?_)
  exact exists_region_iff (by omega) hn

/-- Settles O53: sign extension keeps the signed number of the offset. -/
theorem effectiveAddressWraps : Obligations.EffectiveAddressWraps := by
  intro base off
  have hoff : (off.signExtend 64).toInt = off.toInt := BitVec.toInt_signExtend_of_le (by decide)
  have hcast : (((off.signExtend 64).toNat : Nat) : Int) = off.toInt % 2 ^ 64 := by
    rw [toNat_eq_toInt_emod, hoff, Int.toNat_of_nonneg (Int.emod_nonneg _ (by decide))]
  rw [effectiveAddress, BitVec.toNat_add]
  push_cast
  rw [hcast]
  omega

/-! ### The bytes a load reads and a store writes -/

variable {s : State}

theorem memBytes_eq_map (m : List Host.Cell) (a n : Nat) : memBytes m a n = (List.range n).map fun k => memByte m (a + k) := by
  induction n generalizing a with
  | zero => rfl
  | succ n ih =>
    rw [memBytes, ih, List.range_succ_eq_map, List.map_cons, List.map_map]
    simp only [Function.comp_def, Nat.add_zero, Nat.add_assoc, Nat.add_comm 1]

/-- A load gives the number of the bytes at its address (`20_memory.md` R41). -/
theorem toNat_load (s : State) (a : Word) (z : Size) : (s.load a z).toNat = loadNat s a.toNat (sizeBytes z) := by
  rw [State.load, toNat_memRead (sizeBytes_le z), memBytes_eq_map, loadNat]

theorem loadNat_lt (s : State) (a : Word) (z : Size) : loadNat s a.toNat (sizeBytes z) < 256 ^ sizeBytes z := by
  rw [loadNat, ← bytesNat_hostOrder]
  simpa using bytesNat_lt (hostOrder s.cfg.hostEndian ((List.range (sizeBytes z)).map fun k => memByte s.mem (a.toNat + k)))

/-- The bytes of a value depend on its low bytes alone. -/
theorem hostByteNat_congr {e : Endian} {n v w k : Nat} (hk : k < n) (h : v % 256 ^ n = w % 256 ^ n) :
    hostByteNat e n v k = hostByteNat e n w k := by
  have hbyte : ∀ j, j < n → ∀ x, x / 256 ^ j % 256 = x % 256 ^ n / 256 ^ j % 256 := by
    intro j hj x
    obtain ⟨i, rfl⟩ : ∃ i, n = j + (i + 1) := ⟨n - j - 1, by omega⟩
    rw [Nat.pow_add, Nat.mod_mul_right_div_self, Nat.pow_succ', Nat.mod_mul_right_mod]
  cases e with
  | little => rw [hostByteNat, hostByteNat, hbyte k hk v, hbyte k hk w, h]
  | big => rw [hostByteNat, hostByteNat, hbyte (n - 1 - k) (by omega) v, hbyte (n - 1 - k) (by omega) w, h]

/-- Byte `k` of the bytes of a word in the order of the host. -/
theorem toNat_getElem_hostOrder {e : Endian} {n k : Nat} {v : Word}
    (hlen : k < (hostOrder e (bytesLE n v)).length) : (hostOrder e (bytesLE n v))[k].toNat = hostByteNat e n v.toNat k := by
  cases e with
  | little => simp only [hostOrder, bytesLE_eq_map, List.getElem_map, List.getElem_range, toNat_extract_byte, hostByteNat]
  | big =>
    simp only [hostOrder, bytesLE_eq_map, List.getElem_reverse, List.length_map, List.length_range, List.getElem_map,
      List.getElem_range, toNat_extract_byte, hostByteNat]

theorem memByte_memWrite_inside {e : Endian} {m : List Host.Cell} {a n k : Nat} {v : Word} (hk : k < n) :
    (memByte (memWrite e m a n v) (a + k)).toNat = hostByteNat e n v.toNat k := by
  have hread := memBytes_memWrite e m a v (le_refl n)
  rw [memBytes_eq_map, List.take_of_length_le (by simp)] at hread
  have hlen : k < (hostOrder e (bytesLE n v)).length := by simpa using hk
  rw [← toNat_getElem_hostOrder hlen]
  simp [← hread]

/-- A store changes the bytes at its address alone, to those of its value; only the low bytes of the value count. -/
theorem storesOnly_of_memWrite {t : State} {a : Nat} {z : Size} {w : Word} {v : Nat}
    (hmem : t.mem = memWrite s.cfg.hostEndian s.mem a (sizeBytes z) w)
    (hv : w.toNat % 256 ^ sizeBytes z = v % 256 ^ sizeBytes z) : StoresOnly s t (some (a, sizeBytes z, v)) := by
  refine ⟨fun k hk => ?_, fun x hx => ?_⟩
  · rw [hmem, memByte_memWrite_inside hk, hostByteNat_congr hk hv]
  · rw [hmem, memByte_memWrite_outside hx]

/-! ### Loads and stores -/

/-- A load that passes its checks writes what it read (`44_load_store.md` R199). -/
theorem stepEffect_of_loadReg {i : Instr} {d b : Reg} {off : BitVec 16} {z : Size} (hexec : exec i s = loadReg z d b off s)
    (hd : d ≠ .r10) (hread : s.readable b = true)
    (h1 : aligned s.cfg .read (effectiveAddress (s.value 0 b) off).toNat (sizeBytes z) = true)
    (h2 : admits s.cfg .read (effectiveAddress (s.value 0 b) off).toNat (sizeBytes z) = true) :
    StepEffect (exec i s) s (s.pc + 1)
      (some (d, loadNat s (effectiveAddress (s.value 0 b) off).toNat (sizeBytes z))) none := by
  rw [hexec, loadReg, readReg_of_readable hread, access_of_admitted h1 h2, ← toNat_load]
  exact stepEffect_finish hd s _

/-- Settles O45: the four loads are `loadReg` at their size. -/
theorem loadResults : Obligations.LoadResults := by
  intro s d b off hd hread
  have hw : d.writable = true := writable_of_ne_r10 hd
  exact ⟨stepEffect_of_loadReg (z := .w) (legal_of_wellFormed hw) hd hread,
    stepEffect_of_loadReg (z := .h) (legal_of_wellFormed hw) hd hread,
    stepEffect_of_loadReg (z := .b) (legal_of_wellFormed hw) hd hread,
    stepEffect_of_loadReg (z := .dw) (legal_of_wellFormed hw) hd hread⟩

/-- A store that passes its checks changes the bytes at its address and `pc` (`44_load_store.md` R191). -/
theorem stepEffect_of_storeValue {i : Instr} {base v : Word} {off : BitVec 16} {z : Size}
    (hexec : exec i s = storeValue z base off v s)
    (h1 : aligned s.cfg .write (effectiveAddress base off).toNat (sizeBytes z) = true)
    (h2 : admits s.cfg .write (effectiveAddress base off).toNat (sizeBytes z) = true) :
    StepEffect (exec i s) s (s.pc + 1) none (some ((effectiveAddress base off).toNat, sizeBytes z, v.toNat)) := by
  rw [hexec, storeValue, access_of_admitted h1 h2]
  exact ⟨_, rfl, rfl, ⟨rfl, rfl⟩, storesOnly_of_memWrite rfl rfl, rfl, rfl, rfl, rfl⟩

theorem storeReg_of_readable {b r : Reg} (hb : s.readable b = true) (hr : s.readable r = true) (z : Size) (off : BitVec 16) :
    storeReg z b r off s = storeValue z (s.value 0 b) off (s.value 1 r) s := by
  rw [storeReg, readReg_of_readable hb, readReg_of_readable hr]

theorem storeImm_of_readable {b : Reg} (hb : s.readable b = true) (z : Size) (off : BitVec 16) (imm : BitVec 32) :
    storeImm z b off imm s = storeValue z (s.value 0 b) off (imm.signExtend 64) s := by
  rw [storeImm, readReg_of_readable hb]

/-- Settles O46: the eight stores are `storeValue` at their size, of the register or of the immediate. -/
theorem storeResults : Obligations.StoreResults := by
  intro s b off hb
  refine ⟨fun m => ?_, fun r hr => ?_⟩
  · have run (z : Size) {i : Instr} (hexec : exec i s = storeImm z b off m s) :=
      stepEffect_of_storeValue (hexec.trans (storeImm_of_readable hb z off m))
    rw [← toNat_signExtend_eq_sextNat]
    exact ⟨run .w rfl, run .h rfl, run .b rfl, run .dw rfl⟩
  · have run (z : Size) {i : Instr} (hexec : exec i s = storeReg z b r off s) :=
      stepEffect_of_storeValue (hexec.trans (storeReg_of_readable hb hr z off))
    exact ⟨run .w rfl, run .h rfl, run .b rfl, run .dw rfl⟩

/-! ### Atomic operations -/

/-- A read-modify-write that passes its checks stores the new value; with `fetch` the register receives the old one
(`45_atomic.md` R210, R211). -/
theorem stepEffect_of_atomicRmw {i : Instr} {b r : Reg} {off : BitVec 16} {z : Size} {f : Word → Word → Word} {fetch : Bool}
    (hexec : exec i s = atomicRmw z f fetch b r off s) (hfetch : fetch = true → r ≠ .r10)
    (hb : s.readable b = true) (hr : s.readable r = true) {g : Nat → Nat → Nat}
    (hf : ∀ old v : Word, old.toNat < 256 ^ sizeBytes z →
      (f old v).toNat % 256 ^ sizeBytes z = g old.toNat (v.toNat % 256 ^ sizeBytes z) % 256 ^ sizeBytes z)
    (h1 : aligned s.cfg .atomic (effectiveAddress (s.value 0 b) off).toNat (sizeBytes z) = true)
    (h2 : admits s.cfg .atomic (effectiveAddress (s.value 0 b) off).toNat (sizeBytes z) = true) :
    StepEffect (exec i s) s (s.pc + 1)
      (if fetch then some (r, loadNat s (effectiveAddress (s.value 0 b) off).toNat (sizeBytes z)) else none)
      (some ((effectiveAddress (s.value 0 b) off).toNat, sizeBytes z,
        g (loadNat s (effectiveAddress (s.value 0 b) off).toNat (sizeBytes z)) ((s.value 1 r).toNat % 256 ^ sizeBytes z))) := by
  have hold : (s.load (effectiveAddress (s.value 0 b) off) z).toNat < 256 ^ sizeBytes z := by
    rw [toNat_load]
    exact loadNat_lt s _ z
  have hstored := hf _ (s.value 1 r) hold
  rw [hexec, atomicRmw, readReg_of_readable hb, readReg_of_readable hr, access_of_admitted h1 h2, ← toNat_load]
  cases fetch with
  | false => exact ⟨_, rfl, rfl, ⟨rfl, rfl⟩, storesOnly_of_memWrite rfl hstored, rfl, rfl, rfl, rfl⟩
  | true =>
    exact ⟨_, rfl, rfl, writesOnly_of_set (hfetch rfl) rfl rfl, storesOnly_of_memWrite rfl hstored, rfl, rfl, rfl, rfl⟩

/-- A 32-bit operation on the low halves is, on numbers, the operation on the old value and the low half of the register. -/
theorem onLow32_mod {f : BitVec 32 → BitVec 32 → BitVec 32} {g : Nat → Nat → Nat}
    (hf : ∀ a b : BitVec 32, (f a b).toNat = g a.toNat b.toNat) (old v : Word) (hold : old.toNat < 256 ^ sizeBytes .w) :
    (onLow32 f old v).toNat % 256 ^ sizeBytes .w = g old.toNat (v.toNat % 256 ^ sizeBytes .w) % 256 ^ sizeBytes .w := by
  have hlow : (old.setWidth 32).toNat = old.toNat := by
    rw [BitVec.toNat_setWidth]
    exact Nat.mod_eq_of_lt hold
  rw [onLow32, BitVec.toNat_setWidth_of_le (by decide), hf, hlow, BitVec.toNat_setWidth]
  rfl

/-- A 64-bit operation uses the whole register. -/
theorem onAll64_mod {f : Word → Word → Word} {g : Nat → Nat → Nat} (hf : ∀ a b : Word, (f a b).toNat = g a.toNat b.toNat)
    (old v : Word) (_ : old.toNat < 256 ^ sizeBytes .dw) :
    (f old v).toNat % 256 ^ sizeBytes .dw = g old.toNat (v.toNat % 256 ^ sizeBytes .dw) % 256 ^ sizeBytes .dw := by
  have hv : v.toNat % 256 ^ sizeBytes .dw = v.toNat := Nat.mod_eq_of_lt v.isLt
  rw [hf, hv]

/-- An exchange stores the low bytes of the register, whatever was there. -/
theorem xchgOp_mod (z : Size) (old v : Word) (_ : old.toNat < 256 ^ sizeBytes z) :
    (xchgOp old v).toNat % 256 ^ sizeBytes z = v.toNat % 256 ^ sizeBytes z % 256 ^ sizeBytes z := by
  rw [xchgOp, Nat.mod_mod]

/-- Settles O47: each operation is `atomicRmw` without fetch, of the operation on numbers that the statement gives. -/
theorem atomicResults : Obligations.AtomicResults := by
  intro s b r off hb hr
  have run32 {i : Instr} {f : BitVec 32 → BitVec 32 → BitVec 32} (g : Nat → Nat → Nat)
      (hf : ∀ a b : BitVec 32, (f a b).toNat = g a.toNat b.toNat) (hexec : exec i s = atomicRmw .w (onLow32 f) false b r off s) :=
    stepEffect_of_atomicRmw hexec (by simp) hb hr (onLow32_mod hf)
  have run64 {i : Instr} {f : Word → Word → Word} (g : Nat → Nat → Nat)
      (hf : ∀ a b : Word, (f a b).toNat = g a.toNat b.toNat) (hexec : exec i s = atomicRmw .dw f false b r off s) :=
    stepEffect_of_atomicRmw hexec (by simp) hb hr (onAll64_mod hf)
  exact ⟨run32 (fun a b => (a + b) % 2 ^ 32) BitVec.toNat_add rfl, run32 (· ||| ·) BitVec.toNat_or rfl,
    run32 (· &&& ·) BitVec.toNat_and rfl, run32 (· ^^^ ·) BitVec.toNat_xor rfl,
    run64 (fun a b => (a + b) % 2 ^ 64) BitVec.toNat_add rfl, run64 (· ||| ·) BitVec.toNat_or rfl,
    run64 (· &&& ·) BitVec.toNat_and rfl, run64 (· ^^^ ·) BitVec.toNat_xor rfl⟩

/-- Settles O48: as without fetch, the data register receiving the old value. -/
theorem atomicFetchAndExchangeResults : Obligations.AtomicFetchAndExchangeResults := by
  intro s b r off hne hb hr
  have hw : r.writable = true := writable_of_ne_r10 hne
  have run32 {i : Instr} {f : BitVec 32 → BitVec 32 → BitVec 32} (g : Nat → Nat → Nat)
      (hf : ∀ a b : BitVec 32, (f a b).toNat = g a.toNat b.toNat) (hexec : exec i s = atomicRmw .w (onLow32 f) true b r off s) :=
    stepEffect_of_atomicRmw hexec (fun _ => hne) hb hr (onLow32_mod hf)
  have run64 {i : Instr} {f : Word → Word → Word} (g : Nat → Nat → Nat)
      (hf : ∀ a b : Word, (f a b).toNat = g a.toNat b.toNat) (hexec : exec i s = atomicRmw .dw f true b r off s) :=
    stepEffect_of_atomicRmw hexec (fun _ => hne) hb hr (onAll64_mod hf)
  have xchg (z : Size) {i : Instr} (hexec : exec i s = atomicRmw z xchgOp true b r off s) :=
    stepEffect_of_atomicRmw (g := fun _ v => v) hexec (fun _ => hne) hb hr (xchgOp_mod z)
  exact ⟨run32 (fun a b => (a + b) % 2 ^ 32) BitVec.toNat_add (legal_of_wellFormed hw),
    run32 (· ||| ·) BitVec.toNat_or (legal_of_wellFormed hw), run32 (· &&& ·) BitVec.toNat_and (legal_of_wellFormed hw),
    run32 (· ^^^ ·) BitVec.toNat_xor (legal_of_wellFormed hw), xchg .w (legal_of_wellFormed hw),
    run64 (fun a b => (a + b) % 2 ^ 64) BitVec.toNat_add (legal_of_wellFormed hw),
    run64 (· ||| ·) BitVec.toNat_or (legal_of_wellFormed hw), run64 (· &&& ·) BitVec.toNat_and (legal_of_wellFormed hw),
    run64 (· ^^^ ·) BitVec.toNat_xor (legal_of_wellFormed hw), xchg .dw (legal_of_wellFormed hw)⟩

/-- Memory equals the expected value at the width of the operation exactly if their numbers do (`45_atomic.md` R223). -/
theorem load_eq_lowBits_iff {a : Word} {z : Size} {v : Word} :
    s.load a z = lowBits z v ↔ loadNat s a.toNat (sizeBytes z) = v.toNat % 256 ^ sizeBytes z := by
  rw [← BitVec.toNat_inj, toNat_load, toNat_lowBits]

/-- A compare and exchange that passes its checks stores the register or nothing; R0 receives the old value either way. -/
theorem stepEffect_of_atomicCmpxchg {i : Instr} {b r : Reg} {off : BitVec 16} {z : Size}
    (hexec : exec i s = atomicCmpxchg z b r off s) (hb : s.readable b = true) (hr : s.readable r = true)
    (hr0 : s.readable .r0 = true)
    (h1 : aligned s.cfg .atomic (effectiveAddress (s.value 0 b) off).toNat (sizeBytes z) = true)
    (h2 : admits s.cfg .atomic (effectiveAddress (s.value 0 b) off).toNat (sizeBytes z) = true) :
    StepEffect (exec i s) s (s.pc + 1)
      (some (.r0, loadNat s (effectiveAddress (s.value 0 b) off).toNat (sizeBytes z)))
      (if loadNat s (effectiveAddress (s.value 0 b) off).toNat (sizeBytes z) = (s.value 2 .r0).toNat % 256 ^ sizeBytes z then
        some ((effectiveAddress (s.value 0 b) off).toNat, sizeBytes z, (s.value 1 r).toNat) else none) := by
  rw [hexec, atomicCmpxchg, readReg_of_readable hb, readReg_of_readable hr, readReg_of_readable hr0, access_of_admitted h1 h2]
  simp only [load_eq_lowBits_iff]
  split <;> rw [← toNat_load]
  · exact ⟨_, rfl, rfl, writesOnly_of_set (by decide) rfl rfl, storesOnly_of_memWrite rfl rfl, rfl, rfl, rfl, rfl⟩
  · exact ⟨_, rfl, rfl, writesOnly_of_set (by decide) rfl rfl, rfl, rfl, rfl, rfl, rfl⟩

/-- Settles O49: the two sizes of `atomicCmpxchg`. -/
theorem compareExchangeResults : Obligations.CompareExchangeResults := by
  intro s b r off hb hr hr0
  exact ⟨stepEffect_of_atomicCmpxchg (z := .w) rfl hb hr hr0, stepEffect_of_atomicCmpxchg (z := .dw) rfl hb hr hr0⟩

end Sys2Proof.Machine
end
